-- ==== Sys2Proof/Word.lean ====
section
/-! DEFINITION. The word types: a 32-bit register word and a 48-bit transaction word (00_scope.md section 6,
30_encoding.md R39). -/

namespace Sys2Proof

/-- A 32-bit register or bus data word (20_memory.md R28). -/
abbrev Word := BitVec 32

/-- A 48-bit transaction word (30_encoding.md R39). -/
abbrev Txn := BitVec 48

end Sys2Proof
end

