-- ==== Sys2Proof/Config.lean ====
section
/-! DEFINITION. The implementation parameters (00_scope.md section 5) as plain data, what makes a set of them legal,
and the one free value of the model: how many TICK steps come between two steps of the bus master. -/

namespace Sys2Proof

/-- TIMER_WIDTH, which is 16 or 32 (R3). -/
inductive TimerWidth where
  | w16
  | w32
  deriving DecidableEq, Repr

/-- W as a number of bits (R3). -/
def TimerWidth.bits : TimerWidth → Nat
  | .w16 => 16
  | .w32 => 32

/-- 2^W - 1 as a bus word: the bits a W-bit register has (30_encoding.md R42). -/
def TimerWidth.mask : TimerWidth → Word
  | .w16 => 0x0000FFFF#32
  | .w32 => 0xFFFFFFFF#32

/-- DUTY_RANGE_POLICY (R6, 43_pwm_duty.md R91). -/
inductive DutyPolicy where
  | fault
  | passthrough
  | clamp
  deriving DecidableEq, Repr

/-- The parameters of 00_scope.md section 5. PERIOD_VALUE is `Config.periodValue`. -/
structure Config where
  timerWidth : TimerWidth
  clkBase : Word
  ioconBase : Word
  tmrBase : Word
  clkctrlReset : Word
  pinResetOd : Word
  pinResetDbg0 : Word
  pinResetDbg1 : Word
  pinResetPwm : Word
  funcOdGpio : BitVec 3
  funcDbg0Gpio : BitVec 3
  funcDbg1Gpio : BitVec 3
  funcPwmMat0 : BitVec 3
  timerClkHz : Nat
  pwmHz : Nat
  dutyPolicy : DutyPolicy
  deriving DecidableEq, Repr

/-- PERIOD_VALUE = TIMER_CLK_HZ / PWM_HZ (R4). -/
def Config.periodValue (c : Config) : Nat := c.timerClkHz / c.pwmHz

/-- The write mask of a pin register, 0x0000043F (10_state.md R12). -/
def pinMask : Word := 0x0000043F#32

/-- The three clock-gate bits GPIO, TIMER and IOCON of CLKCTRL, bits 6, 7 and 16 (10_state.md R10, 40_clock_gate.md R50). -/
def gateMask : Word := 0x000100C0#32

/-- Two 4096-byte windows of the 32-bit address space do not overlap (20_memory.md R27). Distances are taken modulo 2^32,
so a window that would run past 0xFFFFFFFF goes on at 0 and its base is legal. DESIGN CHOICE: the spec does not speak of
such a base (log entry 22). -/
abbrev Config.WindowsApart (a b : Word) : Prop := 4096 ≤ (a - b).toNat ∧ 4096 ≤ (b - a).toNat

/-- The bases are multiples of 4 and their windows do not overlap (00_scope.md section 5, 20_memory.md R27). -/
abbrev Config.BasesWF (c : Config) : Prop :=
  c.clkBase.toNat % 4 = 0 ∧ c.ioconBase.toNat % 4 = 0 ∧ c.tmrBase.toNat % 4 = 0 ∧
  Config.WindowsApart c.clkBase c.ioconBase ∧ Config.WindowsApart c.clkBase c.tmrBase ∧
  Config.WindowsApart c.ioconBase c.tmrBase

/-- The reset values keep what 10_state.md R11 and R14 ask of them. -/
abbrev Config.ResetsWF (c : Config) : Prop :=
  c.clkctrlReset &&& gateMask = 0#32 ∧ c.pinResetOd &&& pinMask = c.pinResetOd ∧
  c.pinResetDbg0 &&& pinMask = c.pinResetDbg0 ∧ c.pinResetDbg1 &&& pinMask = c.pinResetDbg1 ∧
  c.pinResetPwm &&& pinMask = c.pinResetPwm

/-- The division that gives PERIOD_VALUE is exact and its result is nonzero and fits W bits (R4). -/
abbrev Config.PeriodWF (c : Config) : Prop :=
  0 < c.pwmHz ∧ c.periodValue * c.pwmHz = c.timerClkHz ∧ 0 < c.periodValue ∧
  c.periodValue < 2 ^ c.timerWidth.bits

/-- A legal set of parameters: R3 to R5, 10_state.md R11 and R14, 20_memory.md R27. -/
abbrev Config.WF (c : Config) : Prop :=
  c.BasesWF ∧ c.ResetsWF ∧ c.PeriodWF ∧ c.funcPwmMat0 ≠ 0#3

/-- The spec's defaults (00_scope.md section 5). Where the spec leaves a parameter OPEN with no default this takes what
95_test_vectors.md takes (W = 32, CLKCTRL_RESET = 0x0000001F) and, for the three bases, three adjacent windows.
DESIGN CHOICE, unsafe: log entries 2 and 3. -/
def Config.standard : Config where
  timerWidth := .w32
  clkBase := 0x40000000#32
  ioconBase := 0x40001000#32
  tmrBase := 0x40002000#32
  clkctrlReset := 0x0000001F#32
  pinResetOd := 0#32
  pinResetDbg0 := 0#32
  pinResetDbg1 := 0#32
  pinResetPwm := 0#32
  funcOdGpio := 0#3
  funcDbg0Gpio := 1#3
  funcDbg1Gpio := 1#3
  funcPwmMat0 := 2#3
  timerClkHz := 48000000
  pwmHz := 30000
  dutyPolicy := .fault

/-- A FREE VALUE (log entry 1): how many enabled TICK steps the tick agent takes before the bus master's next step, for
the `n`-th choice of the run. The spec gives no bound and no value (R2, R8). That the number is
finite is a DESIGN CHOICE (log entry 21). -/
opaque Config.ticksBefore : Nat → Nat

end Sys2Proof
end

