-- ==== Sys2Proof/Syntax.lean ====
section
/-! DEFINITION. The registers, the operations of spec/opcode_table.json (one constructor per row), and the lines of a bus
master's program (30_encoding.md R47). -/

namespace Sys2Proof

/-- The registers of 30_encoding.md R42. -/
inductive Reg where
  | clkctrl
  | pinOd
  | pinDbg0
  | pinDbg1
  | pinPwm
  | tcr
  | tc
  | mcr
  | mr0
  | mr3
  | pwmc
  deriving DecidableEq, Repr

/-- Every row of spec/opcode_table.json. A read keeps its DATA field, which it ignores (30_encoding.md R43), because a
fault records the whole transaction word (60_exceptions.md R94). The last six rows have no encoding: five macros
(30_encoding.md R48) and the tick agent's own step (42_timer.md R79). -/
inductive Instr where
  | rdClkctrl (x : Word)
  | wrClkctrl (d : Word)
  | rdPinOd (x : Word)
  | wrPinOd (d : Word)
  | rdPinDbg0 (x : Word)
  | wrPinDbg0 (d : Word)
  | rdPinDbg1 (x : Word)
  | wrPinDbg1 (d : Word)
  | rdPinPwm (x : Word)
  | wrPinPwm (d : Word)
  | rdTcr (x : Word)
  | wrTcr (d : Word)
  | rdTc (x : Word)
  | wrTc (d : Word)
  | rdMcr (x : Word)
  | wrMcr (d : Word)
  | rdMr0 (x : Word)
  | wrMr0 (d : Word)
  | rdMr3 (x : Word)
  | wrMr3 (d : Word)
  | rdPwmc (x : Word)
  | wrPwmc (d : Word)
  | orw (r : Reg) (m : Word)
  | configurePins
  | initPwm
  | setDuty (p : Int)
  | delay
  | tick
  deriving DecidableEq, Repr

/-- One line the bus master still has to issue: a transaction word, legal or not, or a macro (30_encoding.md R47, R48).
SET_DUTY's percent is a signed 32-bit number (43_pwm_duty.md R90), here in two's complement. -/
inductive Line where
  | txn (w : Txn)
  | orw (r : Reg) (m : Word)
  | configurePins
  | initPwm
  | setDuty (p : BitVec 32)
  | delay
  deriving DecidableEq, Repr

end Sys2Proof
end

