-- ==== Sys2Proof/WellFormed.lean ====
section
/-! DEFINITION. Which terms of `Instr` are operations of the spec: the types already bound every operand but SET_DUTY's
percent, which must be a signed 32-bit integer (43_pwm_duty.md R90). -/

namespace Sys2Proof

/-- The operands are in the ranges the spec gives them. -/
def Instr.wf : Instr → Bool
  | .rdClkctrl _ => true
  | .wrClkctrl _ => true
  | .rdPinOd _ => true
  | .wrPinOd _ => true
  | .rdPinDbg0 _ => true
  | .wrPinDbg0 _ => true
  | .rdPinDbg1 _ => true
  | .wrPinDbg1 _ => true
  | .rdPinPwm _ => true
  | .wrPinPwm _ => true
  | .rdTcr _ => true
  | .wrTcr _ => true
  | .rdTc _ => true
  | .wrTc _ => true
  | .rdMcr _ => true
  | .wrMcr _ => true
  | .rdMr0 _ => true
  | .wrMr0 _ => true
  | .rdMr3 _ => true
  | .wrMr3 _ => true
  | .rdPwmc _ => true
  | .wrPwmc _ => true
  | .orw _ _ => true
  | .configurePins => true
  | .initPwm => true
  | .setDuty p => decide (-(2 ^ 31) ≤ p ∧ p < 2 ^ 31)
  | .delay => true
  | .tick => true

end Sys2Proof
end

