-- ==== Sys2Proof/Decode.lean ====
section
/-! DEFINITION. The transaction word (30_encoding.md R39 to R46): the register map, the encoder, the total decoder, the
lines of a program, and the bus addresses (20_memory.md R27). -/

namespace Sys2Proof

/-- Why a word is no transaction of the block (30_encoding.md R46). Each raises F_UNMAPPED. -/
inductive DecodeError where
  /-- BLK is 3 to 7. -/
  | reservedBlock
  /-- OFF has bits 1:0 not 0 (20_memory.md R29). -/
  | misalignedOffset
  /-- OFF is aligned and not listed for its BLK. -/
  | unlistedOffset
  deriving DecidableEq, Repr

/-- BLK of a register's group: 0 = CLK, 1 = IOCON, 2 = TMR (R41, R42). -/
def Reg.blk : Reg → BitVec 3
  | .clkctrl => 0#3
  | .pinOd => 1#3
  | .pinDbg0 => 1#3
  | .pinDbg1 => 1#3
  | .pinPwm => 1#3
  | .tcr => 2#3
  | .tc => 2#3
  | .mcr => 2#3
  | .mr0 => 2#3
  | .mr3 => 2#3
  | .pwmc => 2#3

/-- OFF of a register inside its group (R42). -/
def Reg.off : Reg → BitVec 12
  | .clkctrl => 0x080#12
  | .pinOd => 0x000#12
  | .pinDbg0 => 0x004#12
  | .pinDbg1 => 0x008#12
  | .pinPwm => 0x00C#12
  | .tcr => 0x004#12
  | .tc => 0x008#12
  | .mcr => 0x014#12
  | .mr0 => 0x018#12
  | .mr3 => 0x024#12
  | .pwmc => 0x074#12

/-- The register map's rows (R42). -/
def allRegs : List Reg :=
  [.clkctrl, .pinOd, .pinDbg0, .pinDbg1, .pinPwm, .tcr, .tc, .mcr, .mr0, .mr3, .pwmc]

/-- The register at a group and offset, or why there is none (R42, R46). -/
def regAt (blk : BitVec 3) (off : BitVec 12) : Except DecodeError Reg :=
  if 3 ≤ blk.toNat then .error .reservedBlock
  else if off.extractLsb' 0 2 ≠ 0#2 then .error .misalignedOffset
  else match allRegs.find? (fun r => r.blk == blk && r.off == off) with
    | some r => .ok r
    | none => .error .unlistedOffset

/-- W, bit 47 (R39, R40). -/
def txnW (w : Txn) : Bool := w.getLsbD 47
/-- BLK, bits 46:44 (R39, R41). -/
def txnBlk (w : Txn) : BitVec 3 := w.extractLsb' 44 3
/-- OFF, bits 43:32 (R39). -/
def txnOff (w : Txn) : BitVec 12 := w.extractLsb' 32 12
/-- DATA, bits 31:0 (R39). -/
def txnData (w : Txn) : Word := w.extractLsb' 0 32

/-- `RD r`, whose DATA field is ignored (R40, R43). -/
def Instr.rd (r : Reg) (x : Word) : Instr :=
  match r with
  | .clkctrl => .rdClkctrl x
  | .pinOd => .rdPinOd x
  | .pinDbg0 => .rdPinDbg0 x
  | .pinDbg1 => .rdPinDbg1 x
  | .pinPwm => .rdPinPwm x
  | .tcr => .rdTcr x
  | .tc => .rdTc x
  | .mcr => .rdMcr x
  | .mr0 => .rdMr0 x
  | .mr3 => .rdMr3 x
  | .pwmc => .rdPwmc x

/-- `WR r, d` (R40). -/
def Instr.wr (r : Reg) (d : Word) : Instr :=
  match r with
  | .clkctrl => .wrClkctrl d
  | .pinOd => .wrPinOd d
  | .pinDbg0 => .wrPinDbg0 d
  | .pinDbg1 => .wrPinDbg1 d
  | .pinPwm => .wrPinPwm d
  | .tcr => .wrTcr d
  | .tc => .wrTc d
  | .mcr => .wrMcr d
  | .mr0 => .wrMr0 d
  | .mr3 => .wrMr3 d
  | .pwmc => .wrPwmc d

/-- The operation a 48-bit word stands for. Total: every other word is rejected by name (R39 to R43, R46). -/
def decode (w : Txn) : Except DecodeError Instr :=
  match regAt (txnBlk w) (txnOff w) with
  | .error e => .error e
  | .ok r => .ok (if txnW w then .wr r (txnData w) else .rd r (txnData w))

/-- A line of the bus master's program as an operation. Only a transaction word can be rejected; the rejection keeps the
word, which F_UNMAPPED records (60_exceptions.md R94). -/
def decodeLine : Line → Except (Txn × DecodeError) Instr
  | .txn w =>
    match decode w with
    | .ok i => .ok i
    | .error e => .error (w, e)
  | .orw r m => .ok (.orw r m)
  | .configurePins => .ok .configurePins
  | .initPwm => .ok .initPwm
  | .setDuty p => .ok (.setDuty p.toInt)
  | .delay => .ok .delay

/-- The header bits 47:32, with W, BLK and OFF (R39). -/
def header (write : Bool) (r : Reg) : BitVec 16 := BitVec.ofBool write ++ r.blk ++ r.off

/-- The word of a transaction: header << 32 | DATA (R39, R42). -/
def txnWord (write : Bool) (r : Reg) (d : Word) : Txn := header write r ++ d

/-- The word of `RD r` whose DATA field holds `x`; the canonical one has 0 (R43). -/
def rdWord (r : Reg) (x : Word) : Txn := txnWord false r x

/-- The word of `WR r, d`. -/
def wrWord (r : Reg) (d : Word) : Txn := txnWord true r d

/-- The words of an operation: one for a transaction, none for a macro or TICK, which have no encoding (R48). -/
def encode : Instr → List Txn
  | .rdClkctrl x => [rdWord .clkctrl x]
  | .wrClkctrl d => [wrWord .clkctrl d]
  | .rdPinOd x => [rdWord .pinOd x]
  | .wrPinOd d => [wrWord .pinOd d]
  | .rdPinDbg0 x => [rdWord .pinDbg0 x]
  | .wrPinDbg0 d => [wrWord .pinDbg0 d]
  | .rdPinDbg1 x => [rdWord .pinDbg1 x]
  | .wrPinDbg1 d => [wrWord .pinDbg1 d]
  | .rdPinPwm x => [rdWord .pinPwm x]
  | .wrPinPwm d => [wrWord .pinPwm d]
  | .rdTcr x => [rdWord .tcr x]
  | .wrTcr d => [wrWord .tcr d]
  | .rdTc x => [rdWord .tc x]
  | .wrTc d => [wrWord .tc d]
  | .rdMcr x => [rdWord .mcr x]
  | .wrMcr d => [wrWord .mcr d]
  | .rdMr0 x => [rdWord .mr0 x]
  | .wrMr0 d => [wrWord .mr0 d]
  | .rdMr3 x => [rdWord .mr3 x]
  | .wrMr3 d => [wrWord .mr3 d]
  | .rdPwmc x => [rdWord .pwmc x]
  | .wrPwmc d => [wrWord .pwmc d]
  | .orw _ _ => []
  | .configurePins => []
  | .initPwm => []
  | .setDuty _ => []
  | .delay => []
  | .tick => []

/-- The program line that issues an operation. TICK has none: it is the tick agent's step, not the bus master's. -/
def Instr.toLine : Instr → Option Line
  | .rdClkctrl x => some (.txn (rdWord .clkctrl x))
  | .wrClkctrl d => some (.txn (wrWord .clkctrl d))
  | .rdPinOd x => some (.txn (rdWord .pinOd x))
  | .wrPinOd d => some (.txn (wrWord .pinOd d))
  | .rdPinDbg0 x => some (.txn (rdWord .pinDbg0 x))
  | .wrPinDbg0 d => some (.txn (wrWord .pinDbg0 d))
  | .rdPinDbg1 x => some (.txn (rdWord .pinDbg1 x))
  | .wrPinDbg1 d => some (.txn (wrWord .pinDbg1 d))
  | .rdPinPwm x => some (.txn (rdWord .pinPwm x))
  | .wrPinPwm d => some (.txn (wrWord .pinPwm d))
  | .rdTcr x => some (.txn (rdWord .tcr x))
  | .wrTcr d => some (.txn (wrWord .tcr d))
  | .rdTc x => some (.txn (rdWord .tc x))
  | .wrTc d => some (.txn (wrWord .tc d))
  | .rdMcr x => some (.txn (rdWord .mcr x))
  | .wrMcr d => some (.txn (wrWord .mcr d))
  | .rdMr0 x => some (.txn (rdWord .mr0 x))
  | .wrMr0 d => some (.txn (wrWord .mr0 d))
  | .rdMr3 x => some (.txn (rdWord .mr3 x))
  | .wrMr3 d => some (.txn (wrWord .mr3 d))
  | .rdPwmc x => some (.txn (rdWord .pwmc x))
  | .wrPwmc d => some (.txn (wrWord .pwmc d))
  | .orw r m => some (.orw r m)
  | .configurePins => some .configurePins
  | .initPwm => some .initPwm
  | .setDuty p => some (.setDuty (BitVec.ofInt 32 p))
  | .delay => some .delay
  | .tick => none

/-- The transaction word in the low `nbits` bits of `w`, every bit above them 0. -/
def wordOfBits (nbits w : Nat) : Txn := BitVec.ofNat 48 (w % 2 ^ nbits)

/-- What the decoder reads from the low `nbits` bits of `w`; a number past 48 bits is no transaction word (R39). -/
def decodeTableWord (nbits w : Nat) : Option Instr :=
  if w % 2 ^ nbits < 2 ^ 48 then (decode (wordOfBits nbits w)).toOption else none

/-- BASE(blk) (20_memory.md R27). -/
def Config.base (c : Config) (r : Reg) : Word :=
  match r with
  | .clkctrl => c.clkBase
  | .pinOd => c.ioconBase
  | .pinDbg0 => c.ioconBase
  | .pinDbg1 => c.ioconBase
  | .pinPwm => c.ioconBase
  | .tcr => c.tmrBase
  | .tc => c.tmrBase
  | .mcr => c.tmrBase
  | .mr0 => c.tmrBase
  | .mr3 => c.tmrBase
  | .pwmc => c.tmrBase

/-- The bus address of a register, BASE(blk) + off (20_memory.md R27), the sum taken modulo 2^32 (DESIGN CHOICE, log
entry 22). -/
def Config.address (c : Config) (r : Reg) : Word := c.base r + r.off.setWidth 32

/-- The bus address of byte lane `i` of a register, which holds bits 8i+7:8i of its word (20_memory.md R30). The base being
a multiple of 4, it does not wrap within a word. -/
def Config.laneAddress (c : Config) (r : Reg) (i : Fin 4) : Word := c.address r + BitVec.ofNat 32 i.val

/-- Byte lane `i` of a bus word (20_memory.md R30: little-endian). -/
def byteLane (v : Word) (i : Fin 4) : BitVec 8 := v.extractLsb' (8 * i.val) 8

/-- The group and offset of a bus address, if it lies in one of the three windows (20_memory.md R27), which go on at 0 past
0xFFFFFFFF (DESIGN CHOICE, log entry 22). -/
def Config.locate (c : Config) (a : Word) : Option (BitVec 3 × BitVec 12) :=
  if (a - c.clkBase).toNat < 4096 then some (0#3, (a - c.clkBase).setWidth 12)
  else if (a - c.ioconBase).toNat < 4096 then some (1#3, (a - c.ioconBase).setWidth 12)
  else if (a - c.tmrBase).toNat < 4096 then some (2#3, (a - c.tmrBase).setWidth 12)
  else none

/-- `MemRead(addr, 4)` (00_scope.md section 6) as a transaction word: `RD blk:off`, with DATA 0. -/
def Config.memReadWord (c : Config) (a : Word) : Option Txn :=
  (c.locate a).map fun p => BitVec.ofBool false ++ p.1 ++ p.2 ++ (0 : Word)

/-- `MemWrite(addr, 4, v)` (00_scope.md section 6) as a transaction word: `WR blk:off, v`. -/
def Config.memWriteWord (c : Config) (a v : Word) : Option Txn :=
  (c.locate a).map fun p => BitVec.ofBool true ++ p.1 ++ p.2 ++ v

end Sys2Proof
end

