-- ==== Sys2Proof/Machine/State.lean ====
section
/-! DEFINITION. The machine's state (10_state.md R9, R22 to R24, 43_pwm_duty.md R88), its fault records
(60_exceptions.md R94), its refusals, and the state after reset (70_reset_and_hazards.md R102). -/

namespace Sys2Proof.Machine

/-- The fault codes with their recorded info (60_exceptions.md R94). A value of this type stands in `State.fault` once
the fault is raised, and `step` and `exec` answer `.fault` with it from then on (R95). All are safe: the model stops
where the chip might go on with some result. -/
inductive Fault where
  /-- Code 1, F_UNMAPPED: a transaction word of the bus master that names no register (R46). Safe. -/
  | unmapped (word : Txn) (pc : Nat)
  /-- Code 2, F_UNCLOCKED: an IOCON or TMR transaction whose group's gate is off (R52, R53). Safe. -/
  | unclocked (word : Txn) (pc : Nat)
  /-- Code 3, F_ZERO_PERIOD: a WR_TCR with DATA[0] = 1 while MR3 = 0 (R70). Safe. -/
  | zeroPeriod (word : Txn) (pc : Nat)
  /-- Code 3, F_ZERO_PERIOD with the tag TICK: a TICK while MR3 = 0 (R81). Safe. -/
  | zeroPeriodTick (tc : Word)
  /-- Code 4, F_DUTY_RANGE: a SET_DUTY outside [0, 100] under the policy `fault` (R91). Safe. -/
  | dutyRange (p : Int) (pc : Nat)
  /-- Code 5, F_GATE_CLEARED: a WR_CLKCTRL that turns a gate bit from 1 to 0 (R50). Safe. -/
  | gateCleared (word : Txn) (pc : Nat)
  deriving DecidableEq, Repr

/-- What the model itself turns down. -/
inductive Refusal where
  /-- An arm of `exec` whose instruction has no meaning yet; no arm uses it. Safe. -/
  | notModelled (mnemonic : String)
  /-- `step` where FAULT is empty and no agent has a step: the program is at its end and no TICK is enabled
  (log entry 8). Safe. -/
  | idle
  /-- The meaning of TICK in a state where 42_timer.md R79 does not enable it (log entry 9). Safe. -/
  | tickNotEnabled
  deriving DecidableEq, Repr

/-- The block's state, the model run's own components, the parameters, and the two fields that say which agent goes
next. The W-bit registers stand in 32 bits, those past W being 0 (log entry 11). -/
structure State where
  /-- The implementation parameters (00_scope.md section 5); no step changes them. -/
  cfg : Config
  /-- CLKCTRL (10_state.md R10). -/
  clkctrl : Word
  /-- PIN[OD] (10_state.md R12). -/
  pinOd : Word
  /-- PIN[DBG0] (10_state.md R12). -/
  pinDbg0 : Word
  /-- PIN[DBG1] (10_state.md R12). -/
  pinDbg1 : Word
  /-- PIN[PWM] (10_state.md R12). -/
  pinPwm : Word
  /-- TCR (10_state.md R15). -/
  tcr : Word
  /-- TC (10_state.md R16). -/
  tc : Word
  /-- MCR (10_state.md R17). -/
  mcr : Word
  /-- MR0 (10_state.md R18). -/
  mr0 : Word
  /-- MR3 (10_state.md R19). -/
  mr3 : Word
  /-- PWMC (10_state.md R20). -/
  pwmc : Word
  /-- MAT0, the match-0 output latch: false = LOW, true = HIGH (10_state.md R22). -/
  mat0 : Bool
  /-- FAULT (10_state.md R23). -/
  fault : Option Fault
  /-- The index of the bus master's next transaction (10_state.md R24). -/
  pc : Nat
  /-- The lines the bus master still has to issue, the next one first (10_state.md R24; log entry 5). -/
  program : List Line
  /-- The data the last read returned to the bus master (30_encoding.md R45; log entry 6). -/
  readData : Option Word
  /-- The output trace: the pin's level in each TICK so far, in step order (43_pwm_duty.md R88). -/
  trace : List (Option Bool)
  /-- The MODEL's own field: TICK steps the tick agent takes before the bus master's next step (log entry 1). -/
  ticksDue : Nat
  /-- The MODEL's own field: which value of `Config.ticksBefore` is read next (log entry 1). -/
  turn : Nat
  deriving DecidableEq, Repr

/-- The state after reset of a block with the parameters `c` (70_reset_and_hazards.md R102). -/
def State.resetOf (c : Config) : State where
  cfg := c
  clkctrl := c.clkctrlReset
  pinOd := c.pinResetOd
  pinDbg0 := c.pinResetDbg0
  pinDbg1 := c.pinResetDbg1
  pinPwm := c.pinResetPwm
  tcr := 0#32
  tc := 0#32
  mcr := 0#32
  mr0 := 0#32
  mr3 := 0#32
  pwmc := 0#32
  mat0 := false
  fault := none
  pc := 0
  program := []
  readData := none
  trace := []
  ticksDue := 0
  turn := 0

/-- The state after reset with the parameters of `Config.standard` (log entry 2). -/
def State.reset : State := State.resetOf Config.standard

end Sys2Proof.Machine
end

