-- ==== Sys2Proof/Machine/Flags.lean ====
section
/-! DEFINITION. The one-bit fields of the registers, what they enable, and the match-0 output: latch and pin
(10_state.md sections 2 to 5, 42_timer.md R79, 43_pwm_duty.md R87, R88). The block has no condition flags (10_state.md R25). -/

namespace Sys2Proof.Machine

/-- CLKCTRL.GPIO, bit 6 (10_state.md R10). -/
def State.gateGpio (s : State) : Bool := s.clkctrl.getLsbD 6
/-- CLKCTRL.TIMER, bit 7 (10_state.md R10). -/
def State.gateTimer (s : State) : Bool := s.clkctrl.getLsbD 7
/-- CLKCTRL.IOCON, bit 16 (10_state.md R10). -/
def State.gateIocon (s : State) : Bool := s.clkctrl.getLsbD 16
/-- TCR.CEN, bit 0 (10_state.md R15). -/
def State.cen (s : State) : Bool := s.tcr.getLsbD 0
/-- MCR.MR0R, bit 1 (10_state.md R17). -/
def State.mr0r (s : State) : Bool := s.mcr.getLsbD 1
/-- MCR.MR3R, bit 10 (10_state.md R17). -/
def State.mr3r (s : State) : Bool := s.mcr.getLsbD 10
/-- PWMC.PWMEN0, bit 0 (10_state.md R20). -/
def State.pwmen0 (s : State) : Bool := s.pwmc.getLsbD 0

/-- PIN[p].FUNC, bits 2:0 (10_state.md R12). -/
def pinFunc (v : Word) : BitVec 3 := v.extractLsb' 0 3
/-- PIN[p].MODE, bits 4:3; electrical, no modelled effect (10_state.md R12). -/
def pinMode (v : Word) : BitVec 2 := v.extractLsb' 3 2
/-- PIN[p].HYS, bit 5; electrical, no modelled effect (10_state.md R12). -/
def pinHys (v : Word) : Bool := v.getLsbD 5
/-- PIN[p].OD, bit 10; electrical, no modelled effect (10_state.md R12, 41_pin_function.md R65). -/
def pinOpenDrain (v : Word) : Bool := v.getLsbD 10

/-- What a pin's FUNC code selects (41_pin_function.md R64). -/
inductive PinRole where
  /-- Generic I/O: the GPIO block, which is out of scope, drives the pin. -/
  | genericIO
  /-- The timer's match-0 output. -/
  | matchOutput
  /-- A function the source does not describe. -/
  | undescribed
  deriving DecidableEq, Repr

/-- What the four pins' FUNC fields select (41_pin_function.md R64); `none` for a register that is no pin's. -/
def State.pinRole (s : State) : Reg → Option PinRole
  | .clkctrl => none
  | .pinOd => some (if pinFunc s.pinOd = s.cfg.funcOdGpio then .genericIO else .undescribed)
  | .pinDbg0 => some (if pinFunc s.pinDbg0 = s.cfg.funcDbg0Gpio then .genericIO else .undescribed)
  | .pinDbg1 => some (if pinFunc s.pinDbg1 = s.cfg.funcDbg1Gpio then .genericIO else .undescribed)
  | .pinPwm => some (if pinFunc s.pinPwm = s.cfg.funcPwmMat0 then .matchOutput else .undescribed)
  | .tcr => none
  | .tc => none
  | .mcr => none
  | .mr0 => none
  | .mr3 => none
  | .pwmc => none

/-- PinGateOK (41_pin_function.md R55, 40_clock_gate.md R53). -/
def State.pinGateOK (s : State) : Bool := s.gateIocon && s.gateGpio

/-- TmrGateOK (42_timer.md R68, 40_clock_gate.md R52). -/
def State.tmrGateOK (s : State) : Bool := s.gateTimer

/-- The clock gate a register's group needs; CLK is always clocked (40_clock_gate.md R49, R52, R53). -/
def State.gateOK (s : State) : Reg → Bool
  | .clkctrl => true
  | .pinOd => s.pinGateOK
  | .pinDbg0 => s.pinGateOK
  | .pinDbg1 => s.pinGateOK
  | .pinPwm => s.pinGateOK
  | .tcr => s.tmrGateOK
  | .tc => s.tmrGateOK
  | .mcr => s.tmrGateOK
  | .mr0 => s.tmrGateOK
  | .mr3 => s.tmrGateOK
  | .pwmc => s.tmrGateOK

/-- TICK is enabled: CEN = 1, CLKCTRL.TIMER = 1 and FAULT empty (42_timer.md R79). -/
def State.tickEnabled (s : State) : Bool := s.cen && s.gateTimer && s.fault.isNone

/-- PwmPin(): the PWM pin's level, `none` where it is not observable (43_pwm_duty.md R88). -/
def State.pwmPin (s : State) : Option Bool :=
  if pinFunc s.pinPwm = s.cfg.funcPwmMat0 ∧ s.pwmen0 = true then some s.mat0 else none

/-- MAT0 after the compares of a tick in which TC holds `c`: the match sets it HIGH and wins over the cycle start, which
sets it LOW (43_pwm_duty.md R87). -/
def State.latched (s : State) (c : Word) : Bool :=
  if c = s.mr0 then true else if c = 0#32 then false else s.mat0

/-- PwmLatch(c): the latch, then one sample of the pin (43_pwm_duty.md R87). -/
def State.pwmLatch (s : State) (c : Word) : State :=
  { s with mat0 := s.latched c, trace := s.trace ++ [({ s with mat0 := s.latched c } : State).pwmPin] }

/-- The fault code's number (60_exceptions.md R94). -/
def Fault.code : Fault → Nat
  | .unmapped _ _ => 1
  | .unclocked _ _ => 2
  | .zeroPeriod _ _ => 3
  | .zeroPeriodTick _ => 3
  | .dutyRange _ _ => 4
  | .gateCleared _ _ => 5

end Sys2Proof.Machine
end

