-- ==== Sys2Proof/Machine/Operands.lean ====
section
/-! DEFINITION. The values the operations compute: write masks, the counter's next value, the data words of the macros
(30_encoding.md R42, 42_timer.md R80, 43_pwm_duty.md R90, R91). -/

namespace Sys2Proof.Machine

/-- WMASK(reg) (30_encoding.md R42). -/
def wmask (c : Config) : Reg → Word
  | .clkctrl => 0xFFFFFFFF#32
  | .pinOd => pinMask
  | .pinDbg0 => pinMask
  | .pinDbg1 => pinMask
  | .pinPwm => pinMask
  | .tcr => 0x00000001#32
  | .tc => c.timerWidth.mask
  | .mcr => 0x00000402#32
  | .mr0 => c.timerWidth.mask
  | .mr3 => c.timerWidth.mask
  | .pwmc => 0x00000001#32

/-- The gate bits a write of `d` would turn from 1 to 0 (40_clock_gate.md R50). -/
def clearedGates (old d : Word) : Word := old &&& ~~~d &&& gateMask

/-- (c + 1) mod 2^W (42_timer.md R80). -/
def succW (w : TimerWidth) (c : Word) : Word := (c + 1#32) &&& w.mask

/-- TC after a tick in which it held `c`: the next count, or 0 on an enabled match (42_timer.md R80). -/
def State.nextCount (s : State) (c : Word) : Word :=
  if (s.mr3r = true ∧ succW s.cfg.timerWidth c = s.mr3) ∨ (s.mr0r = true ∧ succW s.cfg.timerWidth c = s.mr0)
  then 0#32 else succW s.cfg.timerWidth c

/-- min(max(p, 0), 100) (43_pwm_duty.md R90). -/
def clampPercent (p : Int) : Int := min (max p 0) 100

/-- ((100 - p) * 16) mod 2^32, computed on integers (43_pwm_duty.md R90). -/
def dutyValue (p : Int) : Word := BitVec.ofInt 32 ((100 - p) * 16)

/-- The word SET_DUTY writes, or `none` where it raises F_DUTY_RANGE (43_pwm_duty.md R90, R91). -/
def dutyOperand (policy : DutyPolicy) (p : Int) : Option Word :=
  if p < 0 ∨ 100 < p then
    match policy with
    | .fault => none
    | .clamp => some (dutyValue (clampPercent p))
    | .passthrough => some (dutyValue p)
  else some (dutyValue p)

/-- PERIOD_VALUE as a data word (00_scope.md R4). -/
def periodWord (c : Config) : Word := BitVec.ofNat 32 c.periodValue

/-- A FUNC code as a mask for its pin register (10_state.md R12). -/
def funcMask (f : BitVec 3) : Word := f.setWidth 32

end Sys2Proof.Machine
end

