-- ==== Sys2Proof/Machine/Ops.lean ====
section
/-! DEFINITION. The shared operations: reading and writing registers, retiring a transaction, raising a fault
(60_exceptions.md R95), the access procedures (41_pin_function.md R55, 42_timer.md R68), the read-modify-write OR
(40_clock_gate.md R51), and the bookkeeping of the two agents' turns. -/

namespace Sys2Proof.Machine

open Host (Outcome)

/-- A register's stored bits. -/
def State.stored (s : State) : Reg → Word
  | .clkctrl => s.clkctrl
  | .pinOd => s.pinOd
  | .pinDbg0 => s.pinDbg0
  | .pinDbg1 => s.pinDbg1
  | .pinPwm => s.pinPwm
  | .tcr => s.tcr
  | .tc => s.tc
  | .mcr => s.mcr
  | .mr0 => s.mr0
  | .mr3 => s.mr3
  | .pwmc => s.pwmc

/-- What a read returns: zext_32(reg) with every reserved bit 0 (30_encoding.md R45, 10_state.md R13). -/
def State.readReg (s : State) (r : Reg) : Word := s.stored r &&& wmask s.cfg r

/-- Store `v` in a register. -/
def State.store (s : State) (r : Reg) (v : Word) : State :=
  match r with
  | .clkctrl => { s with clkctrl := v }
  | .pinOd => { s with pinOd := v }
  | .pinDbg0 => { s with pinDbg0 := v }
  | .pinDbg1 => { s with pinDbg1 := v }
  | .pinPwm => { s with pinPwm := v }
  | .tcr => { s with tcr := v }
  | .tc => { s with tc := v }
  | .mcr => { s with mcr := v }
  | .mr0 => { s with mr0 := v }
  | .mr3 => { s with mr3 := v }
  | .pwmc => { s with pwmc := v }

/-- A bus write of `d`: the register becomes DATA & WMASK (30_encoding.md R44). -/
def State.writeReg (s : State) (r : Reg) (d : Word) : State := s.store r (d &&& wmask s.cfg r)

/-- The transaction is done: pc <- pc + 1, and the bus master goes to its next line (10_state.md R24). -/
def State.retire (s : State) : State := { s with pc := s.pc + 1, program := s.program.tail }

/-- As `retire`, but the lines `ls` come before the rest of the program: what a macro still has to issue. -/
def State.retireTo (s : State) (ls : List Line) : State :=
  { s with pc := s.pc + 1, program := ls ++ s.program.tail }

/-- The read data goes back to the bus master. -/
def State.returned (s : State) (v : Word) : State := { s with readData := some v }

/-- The state with FAULT set to a code and its info and nothing else changed (60_exceptions.md R95). -/
def State.faulted (s : State) (f : Fault) : State := { s with fault := some f }

/-- Raising a fault (60_exceptions.md R95). -/
def raise (f : Fault) (s : State) : Outcome State Fault Refusal := .next (s.faulted f)

/-- The bus master goes to its next line without a transaction. -/
def State.skipLine (s : State) : State := { s with program := s.program.tail }

/-- With FAULT set no operation is enabled (60_exceptions.md R95); with FAULT empty the operation runs. -/
def whenLive (s : State) (k : Outcome State Fault Refusal) : Outcome State Fault Refusal :=
  match s.fault with
  | some f => .fault f
  | none => k

/-- The checks every transaction makes after decoding: FAULT empty, then the group's clock gate (60_exceptions.md R96). -/
def access (r : Reg) (word : Txn) (s : State) (k : Outcome State Fault Refusal) : Outcome State Fault Refusal :=
  whenLive s (if s.gateOK r then k else raise (.unclocked word s.pc) s)

/-- A read transaction whose DATA field holds `x` (41_pin_function.md R55 PinRead, 42_timer.md R68 TmrRead,
40_clock_gate.md R49). -/
def busRead (r : Reg) (x : Word) (s : State) : Outcome State Fault Refusal :=
  access r (rdWord r x) s (.next (s.returned (s.readReg r)).retire)

/-- A write transaction with no check of its own (41_pin_function.md R55 PinWrite, 42_timer.md R68 TmrWrite). -/
def busWrite (r : Reg) (d : Word) (s : State) : Outcome State Fault Refusal :=
  access r (wrWord r d) s (.next (s.writeReg r d).retire)

/-- The first step of `ORW r, m` followed by the lines `rest`: the canonical read of `r`; the write of the value read OR
`m` becomes the bus master's next transaction (40_clock_gate.md R51; log entry 5). -/
def orwThen (r : Reg) (m : Word) (rest : List Line) (s : State) : Outcome State Fault Refusal :=
  access r (rdWord r 0#32) s
    (.next ((s.returned (s.readReg r)).retireTo (.txn (wrWord r (s.readReg r ||| m)) :: rest)))

/-- After a step of the bus master that raised no fault, the next free number of ticks comes due (log entry 1). -/
def State.rearm (s : State) : State :=
  { s with ticksDue := Config.ticksBefore s.turn, turn := s.turn + 1 }

/-- After a TICK one tick less is due (log entry 1). -/
def State.tickTaken (s : State) : State := { s with ticksDue := s.ticksDue - 1 }

/-- Apply `f` to a next state that holds no fault; a faulted state stays as it is (60_exceptions.md R95). -/
def settle (f : State → State) : Outcome State Fault Refusal → Outcome State Fault Refusal
  | .next t => .next (if t.fault.isNone then f t else t)
  | .fault r => .fault r
  | .refused r => .refused r

end Sys2Proof.Machine
end

