-- ==== Sys2Proof/Machine/ClockGate.lean ====
section
/-! DEFINITION. The clock gate operations (40_clock_gate.md R49 to R51). -/

namespace Sys2Proof.Machine

open Host (Outcome)

/-- RD_CLKCTRL (R49). -/
def execRdClkctrl (x : Word) (s : State) : Outcome State Fault Refusal := busRead .clkctrl x s

/-- WR_CLKCTRL: a write that would clear a gate bit raises F_GATE_CLEARED (R50). -/
def execWrClkctrl (d : Word) (s : State) : Outcome State Fault Refusal :=
  access .clkctrl (wrWord .clkctrl d) s
    (if clearedGates s.clkctrl d = 0#32 then .next (s.writeReg .clkctrl d).retire
     else raise (.gateCleared (wrWord .clkctrl d) s.pc) s)

/-- ORW reg, mask: RD reg, then WR reg of the value read OR mask, two transactions (R51). -/
def execOrw (r : Reg) (m : Word) (s : State) : Outcome State Fault Refusal := orwThen r m [] s

end Sys2Proof.Machine
end

