-- ==== Sys2Proof/Machine/Duty.lean ====
section
/-! DEFINITION. The duty register's transactions, SET_DUTY and DELAY (43_pwm_duty.md R85, R86, R90 to R92). -/

namespace Sys2Proof.Machine

open Host (Outcome)

/-- RD_MR0 (R85). -/
def execRdMr0 (x : Word) (s : State) : Outcome State Fault Refusal := busRead .mr0 x s

/-- WR_MR0: MAT0 does not change at the write (R86). -/
def execWrMr0 (d : Word) (s : State) : Outcome State Fault Refusal := busWrite .mr0 d s

/-- SET_DUTY p: the range check by policy first, then one WR_MR0 (R90, R91, 60_exceptions.md R96). -/
def execSetDuty (p : Int) (s : State) : Outcome State Fault Refusal :=
  whenLive s
    (match dutyOperand s.cfg.dutyPolicy p with
     | none => raise (.dutyRange p s.pc) s
     | some v => execWrMr0 v s)

/-- DELAY: no transaction and no change of the block's state; the bus master goes to its next line (R92). -/
def execDelay (s : State) : Outcome State Fault Refusal :=
  whenLive s (.next s.skipLine)

end Sys2Proof.Machine
end

