-- ==== Sys2Proof/Machine/PinFunction.lean ====
section
/-! DEFINITION. The pin-function selector operations (41_pin_function.md R56 to R63, R66). -/

namespace Sys2Proof.Machine

open Host (Outcome)

/-- RD_PIN_OD (R56). -/
def execRdPinOd (x : Word) (s : State) : Outcome State Fault Refusal := busRead .pinOd x s

/-- WR_PIN_OD (R57). -/
def execWrPinOd (d : Word) (s : State) : Outcome State Fault Refusal := busWrite .pinOd d s

/-- RD_PIN_DBG0 (R58). -/
def execRdPinDbg0 (x : Word) (s : State) : Outcome State Fault Refusal := busRead .pinDbg0 x s

/-- WR_PIN_DBG0 (R59). -/
def execWrPinDbg0 (d : Word) (s : State) : Outcome State Fault Refusal := busWrite .pinDbg0 d s

/-- RD_PIN_DBG1 (R60). -/
def execRdPinDbg1 (x : Word) (s : State) : Outcome State Fault Refusal := busRead .pinDbg1 x s

/-- WR_PIN_DBG1 (R61). -/
def execWrPinDbg1 (d : Word) (s : State) : Outcome State Fault Refusal := busWrite .pinDbg1 d s

/-- RD_PIN_PWM (R62). -/
def execRdPinPwm (x : Word) (s : State) : Outcome State Fault Refusal := busRead .pinPwm x s

/-- WR_PIN_PWM (R63). -/
def execWrPinPwm (d : Word) (s : State) : Outcome State Fault Refusal := busWrite .pinPwm d s

/-- What CONFIGURE_PINS issues after the ORW of its step 1 (R66, steps 2 to 4). -/
def configurePinsRest (c : Config) : List Line :=
  [.orw .pinOd (0x00000400#32 ||| funcMask c.funcOdGpio),
   .txn (wrWord .pinDbg0 (funcMask c.funcDbg0Gpio)),
   .txn (wrWord .pinDbg1 (funcMask c.funcDbg1Gpio)),
   .orw .pinPwm (funcMask c.funcPwmMat0)]

/-- CONFIGURE_PINS: the first of its 8 transactions, the others becoming the bus master's next ones (R66; log entry 5). -/
def execConfigurePins (s : State) : Outcome State Fault Refusal :=
  orwThen .clkctrl 0x00010040#32 (configurePinsRest s.cfg) s

end Sys2Proof.Machine
end

