-- ==== Sys2Proof/Machine/Timer.lean ====
section
/-! DEFINITION. The timer's transactions, the counter's step and INIT_PWM (42_timer.md R69 to R81, R83). -/

namespace Sys2Proof.Machine

open Host (Outcome)

/-- RD_TCR (R69). -/
def execRdTcr (x : Word) (s : State) : Outcome State Fault Refusal := busRead .tcr x s

/-- WR_TCR: setting CEN while MR3 = 0 raises F_ZERO_PERIOD (R70). -/
def execWrTcr (d : Word) (s : State) : Outcome State Fault Refusal :=
  access .tcr (wrWord .tcr d) s
    (if d[0] = true ∧ s.mr3 = 0#32 then raise (.zeroPeriod (wrWord .tcr d) s.pc) s
     else .next (s.writeReg .tcr d).retire)

/-- RD_TC (R71). -/
def execRdTc (x : Word) (s : State) : Outcome State Fault Refusal := busRead .tc x s

/-- WR_TC: no compare and no change of MAT0 at the write (R72). -/
def execWrTc (d : Word) (s : State) : Outcome State Fault Refusal := busWrite .tc d s

/-- RD_MCR (R73). -/
def execRdMcr (x : Word) (s : State) : Outcome State Fault Refusal := busRead .mcr x s

/-- WR_MCR (R74). -/
def execWrMcr (d : Word) (s : State) : Outcome State Fault Refusal := busWrite .mcr d s

/-- RD_MR3 (R75). -/
def execRdMr3 (x : Word) (s : State) : Outcome State Fault Refusal := busRead .mr3 x s

/-- WR_MR3 (R76). -/
def execWrMr3 (d : Word) (s : State) : Outcome State Fault Refusal := busWrite .mr3 d s

/-- RD_PWMC (R77). -/
def execRdPwmc (x : Word) (s : State) : Outcome State Fault Refusal := busRead .pwmc x s

/-- WR_PWMC (R78). -/
def execWrPwmc (d : Word) (s : State) : Outcome State Fault Refusal := busWrite .pwmc d s

/-- One tick of a counter whose period is not zero: latch and sample on the value held, then count (R80). -/
def State.ticked (s : State) : State := { s.pwmLatch s.tc with tc := s.nextCount s.tc }

/-- TICK (R79 to R81). Where R79 does not enable it there is no step: the model refuses by name (log entry 9). -/
def execTick (s : State) : Outcome State Fault Refusal :=
  whenLive s
    (if s.tickEnabled then (if s.mr3 = 0#32 then raise (.zeroPeriodTick s.tc) s else .next s.ticked)
     else .refused .tickNotEnabled)

/-- What INIT_PWM issues after the ORW of its step 1 (R83, steps 2 to 7). -/
def initPwmRest (c : Config) : List Line :=
  [.txn (wrWord .mr3 (periodWord c)),
   .txn (wrWord .mr0 (periodWord c)),
   .txn (wrWord .mcr 0x00000400#32),
   .txn (wrWord .tc 0x00000000#32),
   .txn (wrWord .pwmc 0x00000001#32),
   .txn (wrWord .tcr 0x00000001#32)]

/-- INIT_PWM: the first of its 8 transactions, the others becoming the bus master's next ones (R83; log entry 5). -/
def execInitPwm (s : State) : Outcome State Fault Refusal :=
  orwThen .clkctrl 0x00000080#32 (initPwmRest s.cfg) s

end Sys2Proof.Machine
end

