-- ==== Sys2Proof/Machine/Dispatch.lean ====
section
/-! DEFINITION. One arm per constructor of Instr: which meaning it has. -/

namespace Sys2Proof.Machine

open Host (Outcome)

/-- The meaning of an operation. -/
def exec (i : Instr) (s : State) : Host.Outcome State Fault Refusal :=
  match i with
  | .rdClkctrl x => Sys2Proof.Machine.execRdClkctrl x s
  | .wrClkctrl d => Sys2Proof.Machine.execWrClkctrl d s
  | .rdPinOd x => Sys2Proof.Machine.execRdPinOd x s
  | .wrPinOd d => Sys2Proof.Machine.execWrPinOd d s
  | .rdPinDbg0 x => Sys2Proof.Machine.execRdPinDbg0 x s
  | .wrPinDbg0 d => Sys2Proof.Machine.execWrPinDbg0 d s
  | .rdPinDbg1 x => Sys2Proof.Machine.execRdPinDbg1 x s
  | .wrPinDbg1 d => Sys2Proof.Machine.execWrPinDbg1 d s
  | .rdPinPwm x => Sys2Proof.Machine.execRdPinPwm x s
  | .wrPinPwm d => Sys2Proof.Machine.execWrPinPwm d s
  | .rdTcr x => Sys2Proof.Machine.execRdTcr x s
  | .wrTcr d => Sys2Proof.Machine.execWrTcr d s
  | .rdTc x => Sys2Proof.Machine.execRdTc x s
  | .wrTc d => Sys2Proof.Machine.execWrTc d s
  | .rdMcr x => Sys2Proof.Machine.execRdMcr x s
  | .wrMcr d => Sys2Proof.Machine.execWrMcr d s
  | .rdMr0 x => Sys2Proof.Machine.execRdMr0 x s
  | .wrMr0 d => Sys2Proof.Machine.execWrMr0 d s
  | .rdMr3 x => Sys2Proof.Machine.execRdMr3 x s
  | .wrMr3 d => Sys2Proof.Machine.execWrMr3 d s
  | .rdPwmc x => Sys2Proof.Machine.execRdPwmc x s
  | .wrPwmc d => Sys2Proof.Machine.execWrPwmc d s
  | .orw r m => Sys2Proof.Machine.execOrw r m s
  | .configurePins => Sys2Proof.Machine.execConfigurePins s
  | .initPwm => Sys2Proof.Machine.execInitPwm s
  | .setDuty p => Sys2Proof.Machine.execSetDuty p s
  | .delay => Sys2Proof.Machine.execDelay s
  | .tick => Sys2Proof.Machine.execTick s

end Sys2Proof.Machine
end

