-- ==== Sys2Proof/Machine/Agents.lean ====
section
/-! DEFINITION. The two agents' steps and which of them goes next (00_scope.md R1, R2, R8; log entry 1). -/

namespace Sys2Proof.Machine

open Host (Outcome)

/-- The tick agent's step. -/
def tickStep (s : State) : Outcome State Fault Refusal := settle State.tickTaken (exec .tick s)

/-- The bus master's step: it issues its next line. A word that names no register raises F_UNMAPPED
(30_encoding.md R46); a bus master at the end of its program issues nothing (20_memory.md R38). -/
def busStep (s : State) : Outcome State Fault Refusal :=
  match s.program with
  | [] => .refused .idle
  | l :: _ =>
    match decodeLine l with
    | .ok i => settle State.rearm (exec i s)
    | .error (w, _) => whenLive s (raise (.unmapped w s.pc) s)

/-- The tick agent goes next: a TICK is enabled and one is due, or the bus master has nothing left to issue. So an
enabled TICK is never put off forever (00_scope.md R8). The number due being finite, a bus master with lines left always
goes on after finitely many ticks. DESIGN CHOICE: R8 makes the tick agent alone fair (log entry 21). -/
def State.ticksNext (s : State) : Bool := s.tickEnabled && (s.ticksDue != 0 || s.program.isEmpty)

/-- One step of the agent whose turn it is; with FAULT set no step is enabled (60_exceptions.md R95). -/
def stepOf (s : State) : Outcome State Fault Refusal :=
  whenLive s (if s.ticksNext then tickStep s else busStep s)

end Sys2Proof.Machine
end

