-- ==== Sys2Proof/Machine/Step.lean ====
section
/-! DEFINITION. One step of the machine, and the state in which a given transaction word is the next to run. -/

namespace Sys2Proof.Machine

/-- One step of one of the two agents. -/
def step : State → Host.Outcome State Fault Refusal := stepOf

/-- The state `s` with the transaction word in the low `nbits` bits of `w` as the bus master's next line, to be issued
before any TICK (log entry 4). -/
def State.withFetchWord (s : State) (nbits w : Nat) : State :=
  { s with program := .txn (wordOfBits nbits w) :: s.program.tail, ticksDue := 0 }

end Sys2Proof.Machine
end

