-- ==== Sys2Proof/Machine/Asm.lean ====
section
/-! DEFINITION. The assembler syntax of a model program (30_encoding.md R47): its lines as data, the program line each
stands for, and a reader of a line's text. -/

namespace Sys2Proof.Machine

/-- The forms of a program line (R47). -/
inductive AsmLine where
  | rd (r : Reg)
  | wr (r : Reg) (v : Word)
  | orw (r : Reg) (m : Word)
  | configurePins
  | initPwm
  | setDuty (p : BitVec 32)
  | delay
  deriving DecidableEq, Repr

/-- `RD X` is RD_X with the canonical DATA 0, `WR X, v` is WR_X with DATA = v (R43, R47). -/
def assemble : AsmLine → Line
  | .rd r => .txn (rdWord r 0#32)
  | .wr r v => .txn (wrWord r v)
  | .orw r m => .orw r m
  | .configurePins => .configurePins
  | .initPwm => .initPwm
  | .setDuty p => .setDuty p
  | .delay => .delay

/-- The register names of R47. -/
def regNames : List (List Char × Reg) :=
  [("CLKCTRL".toList, .clkctrl), ("PIN_OD".toList, .pinOd), ("PIN_DBG0".toList, .pinDbg0),
   ("PIN_DBG1".toList, .pinDbg1), ("PIN_PWM".toList, .pinPwm), ("TCR".toList, .tcr), ("TC".toList, .tc),
   ("MCR".toList, .mcr), ("MR0".toList, .mr0), ("MR3".toList, .mr3), ("PWMC".toList, .pwmc)]

/-- A register by its name. -/
def readName (t : List Char) : Option Reg := (regNames.find? (fun p => p.1 == t)).map (·.2)

/-- The value of a digit in a base up to 16. -/
def digitValue (base : Nat) (c : Char) : Option Nat :=
  let v := if '0' ≤ c ∧ c ≤ '9' then some (c.toNat - 48)
    else if 'a' ≤ c ∧ c ≤ 'f' then some (c.toNat - 87)
    else if 'A' ≤ c ∧ c ≤ 'F' then some (c.toNat - 55) else none
  v.filter (· < base)

/-- Digits after the number `acc` read so far. -/
def readDigits (base acc : Nat) : List Char → Option Nat
  | [] => some acc
  | c :: cs =>
    match digitValue base c with
    | some d => readDigits base (acc * base + d) cs
    | none => none

/-- A number, decimal or 0x hex (R47). -/
def readNat : List Char → Option Nat
  | '0' :: 'x' :: c :: cs => readDigits 16 0 (c :: cs)
  | c :: cs => readDigits 10 0 (c :: cs)
  | [] => none

/-- A `<value>` or `<mask>`: a 32-bit unsigned number (R47). -/
def readWord (t : List Char) : Option Word :=
  ((readNat t).filter (· < 2 ^ 32)).map (BitVec.ofNat 32)

/-- A `<percent>`: a signed 32-bit integer (R47, 43_pwm_duty.md R90). DESIGN CHOICE: its digits may be decimal or 0x hex, as
R47 says of a `<value>` or `<mask>` only (log entry 19). -/
def readPercent : List Char → Option (BitVec 32)
  | '-' :: cs => ((readNat cs).filter (· ≤ 2 ^ 31)).map (fun n => BitVec.ofInt 32 (-(n : Int)))
  | cs => ((readNat cs).filter (· < 2 ^ 31)).map (BitVec.ofNat 32)

/-- A line's text cut at its comment, split at blanks, a comma being a token of its own; `cur` is the token read so far,
backwards. -/
def tokens (cur : List Char) : List Char → List (List Char)
  | [] => if cur.isEmpty then [] else [cur.reverse]
  | c :: cs =>
    let done := if cur.isEmpty then [] else [cur.reverse]
    if c = ';' then done
    else if c = ' ' ∨ c = '\t' then done ++ tokens [] cs
    else if c = ',' then done ++ [','] :: tokens [] cs
    else tokens (c :: cur) cs

/-- The line a text stands for; `none` where the text has none of the forms of R47. -/
def readLine (text : String) : Option AsmLine :=
  match tokens [] text.toList with
  | [k] =>
    if k = "CONFIGURE_PINS".toList then some .configurePins
    else if k = "INIT_PWM".toList then some .initPwm
    else if k = "DELAY".toList then some .delay
    else none
  | [k, a] =>
    if k = "RD".toList then (readName a).map .rd
    else if k = "SET_DUTY".toList then (readPercent a).map .setDuty
    else none
  | [k, a, sep, b] =>
    if sep ≠ [','] then none
    else if k = "WR".toList then
      match readName a, readWord b with
      | some r, some v => some (.wr r v)
      | _, _ => none
    else if k = "ORW".toList then
      match readName a, readWord b with
      | some r, some v => some (.orw r v)
      | _, _ => none
    else none
  | _ => none

end Sys2Proof.Machine
end

