-- ==== Sys2Proof/Safety.lean ====
section
/-! DEFINITION. Runs of the machine, what counts as a good state of one, and the terms the statements use. -/

namespace Sys2Proof.Machine

open Host (Outcome)

/-- `k` steps of `f`, stopping at the first fault or refusal. -/
def iter (f : State → Outcome State Fault Refusal) : Nat → State → Outcome State Fault Refusal
  | 0, s => .next s
  | k + 1, s =>
    match f s with
    | .next s' => iter f k s'
    | .fault r => .fault r
    | .refused r => .refused r

/-- `k` steps of the machine end in `t`. -/
def Runs (k : Nat) (s t : State) : Prop := iter step k s = .next t

/-- `k` TICK steps with nothing between them. -/
def ticks (k : Nat) (s : State) : Outcome State Fault Refusal := iter (exec .tick) k s

/-- `k` steps of the bus master with no TICK between them. -/
def busRun (k : Nat) (s : State) : Outcome State Fault Refusal := iter busStep k s

/-- CLKCTRL.IOCON (bit 16) and CLKCTRL.GPIO (bit 6) are both 1 (40_clock_gate.md R53). -/
abbrev State.PinsClocked (s : State) : Prop := s.clkctrl[16] = true ∧ s.clkctrl[6] = true

/-- CLKCTRL.TIMER (bit 7) is 1 (40_clock_gate.md R52). -/
abbrev State.TimerClocked (s : State) : Prop := s.clkctrl[7] = true

/-- The words with header `hdr` are the read `rd`. With FAULT empty it returns `val` to the bus master and goes on, where
its group is clocked, and raises F_UNCLOCKED where it is not; nothing else changes. -/
def ReadsAs (rd : Word → Instr) (hdr : BitVec 16) (clocked : State → Prop) (val : State → Word) : Prop :=
  ∀ x : Word, decode (hdr ++ x) = .ok (rd x) ∧ ∀ s : State, s.fault = none →
    (clocked s → exec (rd x) s =
      .next { s with readData := some (val s), pc := s.pc + 1, program := s.program.tail }) ∧
    (¬ clocked s → exec (rd x) s = .next { s with fault := some (.unclocked (hdr ++ x) s.pc) })

/-- The words with header `hdr` are the write `wr`. With FAULT empty it makes the change `upd` to the registers and goes
on, where its group is clocked, and raises F_UNCLOCKED where it is not; nothing else changes. -/
def WritesAs (wr : Word → Instr) (hdr : BitVec 16) (clocked : State → Prop) (upd : State → Word → State) : Prop :=
  ∀ d : Word, decode (hdr ++ d) = .ok (wr d) ∧ ∀ s : State, s.fault = none →
    (clocked s → exec (wr d) s = .next { upd s d with pc := s.pc + 1, program := s.program.tail }) ∧
    (¬ clocked s → exec (wr d) s = .next { s with fault := some (.unclocked (hdr ++ d) s.pc) })

/-- A run goes well while FAULT is empty (60_exceptions.md R95). -/
abbrev State.Good (s : State) : Prop := s.fault = none

/-- Every register keeps its reserved bits 0 (10_state.md R13, R26). -/
abbrev State.ReservedZero (s : State) : Prop := ∀ r : Reg, s.stored r &&& wmask s.cfg r = s.stored r

/-- While the timer is gated off its registers and the latch hold their reset values (40_clock_gate.md R54). -/
abbrev State.TimerOffAtReset (s : State) : Prop :=
  s.gateTimer = false → s.tcr = 0#32 ∧ s.tc = 0#32 ∧ s.mcr = 0#32 ∧ s.mr0 = 0#32 ∧ s.mr3 = 0#32 ∧ s.pwmc = 0#32 ∧ s.mat0 = false

/-- While a pin gate is off the pin registers hold their reset values (40_clock_gate.md R53, R54). -/
abbrev State.PinsOffAtReset (s : State) : Prop :=
  s.pinGateOK = false → s.pinOd = s.cfg.pinResetOd ∧ s.pinDbg0 = s.cfg.pinResetDbg0 ∧
    s.pinDbg1 = s.cfg.pinResetDbg1 ∧ s.pinPwm = s.cfg.pinResetPwm

/-- The invariant of the machine: legal parameters, reserved bits 0, and gated-off groups at their reset values. -/
structure State.Inv (s : State) : Prop where
  cfgWF : s.cfg.WF
  reserved : s.ReservedZero
  timerOff : s.TimerOffAtReset
  pinsOff : s.PinsOffAtReset

/-- How many samples of a trace are HIGH (43_pwm_duty.md R89). -/
def highs (tr : List (Option Bool)) : Nat := tr.count (some true)

/-- A counter set up as R82 and R89 suppose: enabled, MCR = 0x400, MR3 = P, with P not 0. -/
structure State.PeriodSetUp (s : State) (p : Nat) : Prop where
  enabled : s.tickEnabled = true
  mode : s.mcr = 0x00000400#32
  period : s.mr3.toNat = p
  positive : 0 < p

end Sys2Proof.Machine
end

