-- ==== Sys2Proof/Certificates/Slice0/Obligations.lean ====
section
/-! DEFINITION. The statements for the provers. Of the fields they name, `readData` and `program` are the model's form of
what a read returns to the bus master and of what its program still holds (log entries 5 and 6), and `ticksDue` and `turn`
are the model's own (log entry 1): a value a statement gives one of these four is the model's, not a rule's. -/

open Sys2Proof Sys2Proof.Machine

/-! Encoding. -/

/-- Words written out from R39 and the header table of R42 decode to the operation they stand for. -/
def Obligations.HeaderWordsDecode : Prop :=
  decode 0x008000000000#48 = .ok (.rdClkctrl 0#32) ∧ decode 0x80800001005F#48 = .ok (.wrClkctrl 0x1005F#32) ∧
  decode 0x100400000000#48 = .ok (.rdPinDbg0 0#32) ∧ decode 0x900C00000002#48 = .ok (.wrPinPwm 2#32) ∧
  decode 0x200800000000#48 = .ok (.rdTc 0#32) ∧ decode 0xA02400000640#48 = .ok (.wrMr3 1600#32) ∧
  decode 0xA01800000320#48 = .ok (.wrMr0 800#32)

/-- Decoding what the encoder writes gives the instruction back, for every well-formed instruction with every operand;
only TICK has no line of a program (R39 to R44, R48). That a read's instruction keeps the DATA it ignores, and gets it back,
is the model's choice (log entry 13). -/
def Obligations.DecodeInvertsEncode : Prop :=
  (∀ i : Instr, i.wf = true → ∀ l, i.toLine = some l → decodeLine l = .ok i) ∧
  (∀ (i : Instr) (w : Txn), encode i = [w] → decode w = .ok i ∧ i.toLine = some (.txn w)) ∧
  (∀ i : Instr, i ≠ .tick → ∃ l, i.toLine = some l)

/-- Encoding what the decoder reads gives the word back, and what the decoder reads is well formed: the fields of R39 to
R42 and R44. Of a read this includes its DATA, which R43 lets a decoder drop: that the instruction keeps it is the model's
choice (log entry 13). -/
def Obligations.EncodeInvertsDecode : Prop :=
  (∀ (w : Txn) (i : Instr), decode w = .ok i → encode i = [w] ∧ i.wf = true) ∧
  (∀ (l : Line) (i : Instr), decodeLine l = .ok i → i.wf = true ∧ i.toLine = some l)

/-- R46: exactly the words with a reserved BLK, a misaligned OFF or an OFF not listed for its BLK are illegal, and each
raises F_UNMAPPED and changes no register. -/
def Obligations.IllegalWordsRaiseUnmapped : Prop :=
  ∀ w : Txn,
    ((∃ e, decode w = .error e) ↔
      (3 ≤ (w.extractLsb' 44 3).toNat ∨ w.extractLsb' 32 2 ≠ 0#2 ∨
       (w.extractLsb' 44 3, w.extractLsb' 32 12) ∉
         [(0#3, 0x080#12), (1#3, 0x000#12), (1#3, 0x004#12), (1#3, 0x008#12), (1#3, 0x00C#12), (2#3, 0x004#12),
          (2#3, 0x008#12), (2#3, 0x014#12), (2#3, 0x018#12), (2#3, 0x024#12), (2#3, 0x074#12)])) ∧
    ∀ (s : State) (ls : List Line) (e : DecodeError), decode w = .error e → s.fault = none →
      s.program = .txn w :: ls →
      busStep s = .next { s with fault := some (.unmapped w s.pc) } ∧
      (s.ticksNext = false → step s = .next { s with fault := some (.unmapped w s.pc) })

/-- R29: an offset whose bits 1:0 are not 0 raises F_UNMAPPED; no register is read or written. -/
def Obligations.MisalignedOffsetRaisesUnmapped : Prop :=
  ∀ (w : Txn) (s : State) (ls : List Line), w.extractLsb' 32 2 ≠ 0#2 → s.fault = none →
    s.program = .txn w :: ls → busStep s = .next { s with fault := some (.unmapped w s.pc) }

/-- R43: every word with a read's header decodes to that read, whatever its DATA; where the read does not fault the DATA
makes no difference; the assembler's read has DATA 0. The instruction holding the DATA is the model's choice (log entry
13). -/
def Obligations.ReadsIgnoreTheirData : Prop :=
  ∀ (r : Reg) (x y : Word),
    decode (header false r ++ x) = .ok (.rd r x) ∧ assemble (.rd r) = .txn (header false r ++ 0#32) ∧
    ∀ s : State, s.fault = none → s.gateOK r = true → exec (.rd r x) s = exec (.rd r y) s

/-- R47: `RD X` is RD_X, `WR X, v` is WR_X with DATA = v, and the other lines are their macros. -/
def Obligations.AssemblerLinesDecode : Prop :=
  (∀ r, decodeLine (assemble (.rd r)) = .ok (.rd r 0#32)) ∧
  (∀ r v, decodeLine (assemble (.wr r v)) = .ok (.wr r v)) ∧
  (∀ r m, decodeLine (assemble (.orw r m)) = .ok (.orw r m)) ∧
  (∀ p : BitVec 32, decodeLine (assemble (.setDuty p)) = .ok (.setDuty p.toInt)) ∧
  decodeLine (assemble .configurePins) = .ok .configurePins ∧ decodeLine (assemble .initPwm) = .ok .initPwm ∧
  decodeLine (assemble .delay) = .ok .delay

/-- R27: where the windows do not overlap, a register's bus address BASE(blk) + off leads back to its group and offset, a
word access there is its transaction, and no two registers share an address. It covers bases whose window runs past
0xFFFFFFFF, where addresses wrap to 0 by the model's choice (log entry 22). -/
def Obligations.BusAddressesNameTheirRegister : Prop :=
  ∀ c : Config, c.BasesWF →
    (∀ r, c.address r = c.base r + r.off.setWidth 32 ∧ c.locate (c.address r) = some (r.blk, r.off) ∧
      c.memReadWord (c.address r) = some (rdWord r 0#32) ∧ (c.address r).toNat % 4 = 0) ∧
    (∀ r v, c.memWriteWord (c.address r) v = some (wrWord r v)) ∧
    (∀ r r', c.address r = c.address r' → r = r')

/-! Steps, turns and faults. -/

/-- At the bus master's turn a step is the meaning of the instruction its next line decodes to; if that raised no fault
the next free number of ticks comes due (the model's own fields, log entry 1). -/
def Obligations.StepRunsTheDecodedLine : Prop :=
  ∀ (s : State) (l : Line) (ls : List Line) (i : Instr), s.fault = none → s.ticksNext = false →
    s.program = l :: ls → decodeLine l = .ok i → i.wf = true →
    step s =
      match exec i s with
      | .next t =>
        .next (if t.fault = none then { t with ticksDue := Config.ticksBefore t.turn, turn := t.turn + 1 } else t)
      | .fault f => .fault f
      | .refused r => .refused r

/-- At the tick agent's turn a step is TICK, and one tick less is due; its turn is where a TICK is enabled and either one
is due or the program is at its end (log entry 1). -/
def Obligations.StepTakesTheTick : Prop :=
  ∀ s : State,
    (s.ticksNext = true ↔ s.tickEnabled = true ∧ (s.ticksDue ≠ 0 ∨ s.program = [])) ∧
    (s.ticksNext = true →
      step s =
        match exec .tick s with
        | .next t => .next (if t.fault = none then { t with ticksDue := t.ticksDue - 1 } else t)
        | .fault f => .fault f
        | .refused r => .refused r)

/-- R2: any number `k` of ticks can come before the bus master's next step: with `k` due, the next `k` steps are exactly
`k` TICKs, and then it is the bus master's turn. -/
def Obligations.AnyNumberOfTicksFitsBetween : Prop :=
  ∀ (k : Nat) (s : State), s.tickEnabled = true → s.mr3 ≠ 0#32 → s.program ≠ [] →
    ∃ t, ticks k { s with ticksDue := 0 } = .next t ∧ Runs k { s with ticksDue := k } t ∧ t.ticksNext = false ∧
      t.program = s.program

/-- A run that goes on forever takes TICK steps again and again; between two of them only finitely many steps are the bus
master's. So the tick agent is weakly fair (R8). This is more than R8 says: it holds because a program is a finite list
(R24; log entry 17). -/
def Obligations.TickAgentIsFair : Prop :=
  ∀ run : Nat → State, (∀ n, step (run n) = .next (run (n + 1))) →
    ∀ n, ∃ m, n ≤ m ∧ (run m).ticksNext = true ∧ (run (m + 1)).trace.length = (run m).trace.length + 1

/-- With FAULT empty, the program at its end and no TICK enabled, no agent has a step and the model stops by name. This is
the model's choice (log entry 8); no rule gives such a state a step. -/
def Obligations.NoAgentEnabledStopsByName : Prop :=
  ∀ s : State, s.fault = none → s.program = [] → s.tickEnabled = false → step s = .refused .idle

/-- R23: once FAULT is set no step of either agent is enabled; `step` and the meaning of every operation stop with the
record. -/
def Obligations.FaultDisablesEveryStep : Prop :=
  ∀ (s : State) (f : Fault), s.fault = some f → step s = .fault f ∧ ∀ i : Instr, exec i s = .fault f

/-- R95: an operation that raises a fault has no other effect: the state is exactly the one before it, plus FAULT; and the
machine takes no further step. -/
def Obligations.FaultsArePreciseAndFinal : Prop :=
  ∀ (s t : State) (f : Fault), s.fault = none → t.fault = some f →
    ((∃ i, exec i s = .next t) ∨ step s = .next t → t = { s with fault := some f }) ∧
    ∀ k u, ¬ Runs (k + 1) t u

/-- R96: a transaction reports the first fault of the order F_UNMAPPED, F_UNCLOCKED, the operation's own; SET_DUTY's range
check comes before its write; a TICK raises F_ZERO_PERIOD only. -/
def Obligations.FaultsAreCheckedInOrder : Prop :=
  (∀ (s : State) (w : Txn) (ls : List Line), s.fault = none → s.program = .txn w :: ls →
    (∀ e, decode w = .error e → busStep s = .next { s with fault := some (.unmapped w s.pc) }) ∧
    (∀ i, decode w = .ok i → ∀ t, busStep s = .next t →
      (∀ r x, i = .rd r x →
        t.fault = if s.gateOK r = true then none else some (.unclocked w s.pc)) ∧
      (∀ r d, i = .wr r d →
        t.fault = if s.gateOK r = false then some (.unclocked w s.pc)
          else if r = .clkctrl ∧ s.clkctrl &&& ~~~d &&& 0x000100C0#32 ≠ 0#32 then some (.gateCleared w s.pc)
          else if r = .tcr ∧ d[0] = true ∧ s.mr3 = 0#32 then some (.zeroPeriod w s.pc) else none))) ∧
  (∀ (s t : State) (p : Int), s.fault = none → exec (.setDuty p) s = .next t →
    t.fault = if (p < 0 ∨ 100 < p) ∧ s.cfg.dutyPolicy = .fault then some (.dutyRange p s.pc)
      else if s.clkctrl[7] = false then
        some (.unclocked (wrWord .mr0 ((dutyOperand s.cfg.dutyPolicy p).getD 0#32)) s.pc) else none) ∧
  (∀ s t : State, exec .tick s = .next t →
    t.fault = if s.mr3 = 0#32 then some (.zeroPeriodTick s.tc) else none)

/-- R94's numbers: F_UNMAPPED 1, F_UNCLOCKED 2, F_ZERO_PERIOD 3 from either agent, F_DUTY_RANGE 4, F_GATE_CLEARED 5. -/
def Obligations.FaultCodesAreNumbered : Prop :=
  ∀ (w : Txn) (pc : Nat) (v : Word) (p : Int),
    (Fault.unmapped w pc).code = 1 ∧ (Fault.unclocked w pc).code = 2 ∧ (Fault.zeroPeriod w pc).code = 3 ∧
    (Fault.zeroPeriodTick v).code = 3 ∧ (Fault.dutyRange p pc).code = 4 ∧ (Fault.gateCleared w pc).code = 5

/-! Clock gate. -/

/-- R49: RD_CLKCTRL returns all 32 stored bits, in every live state: the CLK group is always clocked. -/
def Obligations.RdClkctrlReturnsTheRegister : Prop :=
  ReadsAs .rdClkctrl 0x0080#16 (fun _ => True) (fun s => s.clkctrl)

/-- R50: WR_CLKCTRL stores its DATA unchanged, and a write that would turn bit 6, 7 or 16 from 1 to 0 raises
F_GATE_CLEARED instead. -/
def Obligations.WrClkctrlStoresOrRefusesClearing : Prop :=
  ∀ (d : Word), decode (0x8080#16 ++ d) = .ok (.wrClkctrl d) ∧ ∀ s : State, s.fault = none →
    (s.clkctrl &&& ~~~d &&& 0x000100C0#32 = 0#32 →
      exec (.wrClkctrl d) s = .next { s with clkctrl := d, pc := s.pc + 1, program := s.program.tail }) ∧
    (s.clkctrl &&& ~~~d &&& 0x000100C0#32 ≠ 0#32 →
      exec (.wrClkctrl d) s = .next { s with fault := some (.gateCleared (0x8080#16 ++ d) s.pc) })

/-- ORW's first transaction (R51): where the register's group is clocked it reads the register, and the write of the value
read OR the mask becomes the bus master's next transaction; where it is not, the read faults and no write follows. -/
def Obligations.OrwReadsFirst : Prop :=
  ∀ (r : Reg) (m : Word) (s : State), s.fault = none →
    (s.gateOK r = true →
      exec (.orw r m) s = .next { s with
        readData := some (s.stored r &&& wmask s.cfg r), pc := s.pc + 1,
        program := .txn (wrWord r ((s.stored r &&& wmask s.cfg r) ||| m)) :: s.program.tail }) ∧
    (s.gateOK r = false →
      exec (.orw r m) s = .next { s with fault := some (.unclocked (rdWord r 0#32) s.pc) })

/-- R51: the two transactions of ORW together, with no TICK between them, store the register's value OR the mask and change
no other register; `pc` advances by 2. A fault of the write is WR_TCR's alone: ORW CLKCTRL never clears a gate bit. -/
def Obligations.OrwStoresValueOrMask : Prop :=
  ∀ (r : Reg) (m : Word) (s : State) (ls : List Line), s.fault = none → s.gateOK r = true →
    s.program = .orw r m :: ls →
    (¬ (r = .tcr ∧ (s.tcr ||| m)[0] = true ∧ s.mr3 = 0#32) →
      ∃ t, busRun 2 s = .next t ∧ t.fault = none ∧ t.pc = s.pc + 2 ∧ t.program = ls ∧
        t.stored r = (s.stored r ||| m) &&& wmask s.cfg r ∧ (∀ r', r' ≠ r → t.stored r' = s.stored r') ∧
        t.mat0 = s.mat0 ∧ t.trace = s.trace ∧ t.cfg = s.cfg) ∧
    (r = .tcr → (s.tcr ||| m)[0] = true → s.mr3 = 0#32 →
      ∃ t, busRun 2 s = .next t ∧ t.tcr = s.tcr ∧ t.pc = s.pc + 1 ∧
        t.fault = some (.zeroPeriod (wrWord .tcr ((s.tcr &&& 1#32) ||| m)) (s.pc + 1)))

/-- R54: a gate bit goes from 0 to 1 at most once and never back, in every step of the machine and in every operation. -/
def Obligations.GateBitsStaySet : Prop :=
  ∀ s t : State, (step s = .next t ∨ ∃ i, exec i s = .next t) →
    (s.clkctrl[6] = true → t.clkctrl[6] = true) ∧ (s.clkctrl[7] = true → t.clkctrl[7] = true) ∧
    (s.clkctrl[16] = true → t.clkctrl[16] = true)

/-! Pin-function selector. -/

/-- R56, R58, R60, R62: the pin registers' reads return the register with its reserved bits 0, where both pin gates are
on, and raise F_UNCLOCKED where one is off. -/
def Obligations.PinReadsReturnTheRegister : Prop :=
  ReadsAs .rdPinOd 0x1000#16 State.PinsClocked (fun s => s.pinOd &&& 0x0000043F#32) ∧
  ReadsAs .rdPinDbg0 0x1004#16 State.PinsClocked (fun s => s.pinDbg0 &&& 0x0000043F#32) ∧
  ReadsAs .rdPinDbg1 0x1008#16 State.PinsClocked (fun s => s.pinDbg1 &&& 0x0000043F#32) ∧
  ReadsAs .rdPinPwm 0x100C#16 State.PinsClocked (fun s => s.pinPwm &&& 0x0000043F#32)

/-- R57, R59, R61, R63: the pin registers' writes store DATA & 0x0000043F, a full overwrite, where both pin gates are on,
and raise F_UNCLOCKED where one is off. -/
def Obligations.PinWritesStoreTheMaskedData : Prop :=
  WritesAs .wrPinOd 0x9000#16 State.PinsClocked (fun s d => { s with pinOd := d &&& 0x0000043F#32 }) ∧
  WritesAs .wrPinDbg0 0x9004#16 State.PinsClocked (fun s d => { s with pinDbg0 := d &&& 0x0000043F#32 }) ∧
  WritesAs .wrPinDbg1 0x9008#16 State.PinsClocked (fun s d => { s with pinDbg1 := d &&& 0x0000043F#32 }) ∧
  WritesAs .wrPinPwm 0x900C#16 State.PinsClocked (fun s d => { s with pinPwm := d &&& 0x0000043F#32 })

/-- CONFIGURE_PINS issues its first transaction, the read of CLKCTRL, in every live state; its other transactions, with
the words R66 lists, become the bus master's next ones. -/
def Obligations.ConfigurePinsStarts : Prop :=
  ∀ s : State, s.fault = none → exec .configurePins s = .next { s with
    readData := some s.clkctrl, pc := s.pc + 1,
    program := .txn (0x8080#16 ++ (s.clkctrl ||| 0x00010040#32)) ::
      .orw .pinOd (0x00000400#32 ||| s.cfg.funcOdGpio.setWidth 32) ::
      .txn (0x9004#16 ++ s.cfg.funcDbg0Gpio.setWidth 32) :: .txn (0x9008#16 ++ s.cfg.funcDbg1Gpio.setWidth 32) ::
      .orw .pinPwm (s.cfg.funcPwmMat0.setWidth 32) :: s.program.tail }

/-- R66: the 8 transactions of CONFIGURE_PINS, with no TICK between them, complete from every live state and have together
exactly these effects. -/
def Obligations.ConfigurePinsCompletes : Prop :=
  ∀ (s : State) (ls : List Line), s.fault = none → s.program = .configurePins :: ls →
    busRun 8 s = .next { s with
      clkctrl := s.clkctrl ||| 0x00010040#32
      pinOd := ((s.pinOd &&& 0x0000043F#32) ||| (0x00000400#32 ||| s.cfg.funcOdGpio.setWidth 32)) &&& 0x0000043F#32
      pinDbg0 := s.cfg.funcDbg0Gpio.setWidth 32
      pinDbg1 := s.cfg.funcDbg1Gpio.setWidth 32
      pinPwm := ((s.pinPwm &&& 0x0000043F#32) ||| s.cfg.funcPwmMat0.setWidth 32) &&& 0x0000043F#32
      readData := some (s.pinPwm &&& 0x0000043F#32)
      pc := s.pc + 8
      program := ls
      ticksDue := Config.ticksBefore (s.turn + 7)
      turn := s.turn + 8 }

/-- R67: what CONFIGURE_PINS leaves when it is run from reset, for every legal set of parameters; the PWM pin's FUNC is the
match output exactly where the FUNC bits of its reset value are among that code's bits. -/
def Obligations.ConfigurePinsFromReset : Prop :=
  ∀ (c : Config) (ls : List Line), c.WF →
    ∃ t, Runs 8 { State.resetOf c with program := .configurePins :: ls } t ∧ t.fault = none ∧ t.pc = 8 ∧
      t.program = ls ∧ t.clkctrl = c.clkctrlReset ||| 0x00010040#32 ∧
      t.pinOd = (c.pinResetOd ||| 0x00000400#32 ||| c.funcOdGpio.setWidth 32) &&& 0x0000043F#32 ∧
      t.pinDbg0 = c.funcDbg0Gpio.setWidth 32 ∧ t.pinDbg1 = c.funcDbg1Gpio.setWidth 32 ∧
      t.pinPwm = (c.pinResetPwm ||| c.funcPwmMat0.setWidth 32) &&& 0x0000043F#32 ∧
      t.tcr = 0#32 ∧ t.tc = 0#32 ∧ t.mcr = 0#32 ∧ t.mr0 = 0#32 ∧ t.mr3 = 0#32 ∧ t.pwmc = 0#32 ∧ t.mat0 = false ∧
      (t.pinPwm.extractLsb' 0 3 = c.funcPwmMat0 ↔
        c.pinResetPwm.extractLsb' 0 3 &&& ~~~c.funcPwmMat0 = 0#3)

/-- R65: MODE, HYS and OD of the pins, and every field of the three pins that are not the PWM pin, change neither the
counter's steps nor the output: two states that differ in them only take the same ticks, with the same trace. -/
def Obligations.ElectricalFieldsDoNotShow : Prop :=
  ∀ (s : State) (a b c d : Word), d.extractLsb' 0 3 = s.pinPwm.extractLsb' 0 3 →
    ({ s with pinOd := a, pinDbg0 := b, pinDbg1 := c, pinPwm := d } : State).pwmPin = s.pwmPin ∧
    ∀ k t, ticks k s = .next t →
      ticks k { s with pinOd := a, pinDbg0 := b, pinDbg1 := c, pinPwm := d } =
        .next { t with pinOd := a, pinDbg0 := b, pinDbg1 := c, pinPwm := d }

/-! Timer. -/

/-- R69, R71, R73, R75, R77, R85: the timer's reads return the register with its reserved bits 0, where the timer is
clocked, and raise F_UNCLOCKED where it is not. -/
def Obligations.TimerReadsReturnTheRegister : Prop :=
  ReadsAs .rdTcr 0x2004#16 State.TimerClocked (fun s => s.tcr &&& 0x00000001#32) ∧
  ReadsAs .rdTc 0x2008#16 State.TimerClocked (fun s => s.tc &&& s.cfg.timerWidth.mask) ∧
  ReadsAs .rdMcr 0x2014#16 State.TimerClocked (fun s => s.mcr &&& 0x00000402#32) ∧
  ReadsAs .rdMr0 0x2018#16 State.TimerClocked (fun s => s.mr0 &&& s.cfg.timerWidth.mask) ∧
  ReadsAs .rdMr3 0x2024#16 State.TimerClocked (fun s => s.mr3 &&& s.cfg.timerWidth.mask) ∧
  ReadsAs .rdPwmc 0x2074#16 State.TimerClocked (fun s => s.pwmc &&& 0x00000001#32)

/-- R72, R74, R76, R78, R86: these writes store DATA & WMASK where the timer is clocked, with no compare and no change of
MAT0, and raise F_UNCLOCKED where it is not. -/
def Obligations.TimerWritesStoreTheMaskedData : Prop :=
  WritesAs .wrTc 0xA008#16 State.TimerClocked (fun s d => { s with tc := d &&& s.cfg.timerWidth.mask }) ∧
  WritesAs .wrMcr 0xA014#16 State.TimerClocked (fun s d => { s with mcr := d &&& 0x00000402#32 }) ∧
  WritesAs .wrMr0 0xA018#16 State.TimerClocked (fun s d => { s with mr0 := d &&& s.cfg.timerWidth.mask }) ∧
  WritesAs .wrMr3 0xA024#16 State.TimerClocked (fun s d => { s with mr3 := d &&& s.cfg.timerWidth.mask }) ∧
  WritesAs .wrPwmc 0xA074#16 State.TimerClocked (fun s d => { s with pwmc := d &&& 0x00000001#32 })

/-- R70: WR_TCR keeps bit 0 of its DATA; it raises F_UNCLOCKED where the timer is not clocked, and F_ZERO_PERIOD where it
would set CEN while MR3 = 0. -/
def Obligations.WrTcrStartsOrRefusesZeroPeriod : Prop :=
  ∀ d : Word, decode (0xA004#16 ++ d) = .ok (.wrTcr d) ∧ ∀ s : State, s.fault = none →
    (s.clkctrl[7] = true → (d[0] = false ∨ s.mr3 ≠ 0#32) →
      exec (.wrTcr d) s = .next { s with
        tcr := d &&& 0x00000001#32, pc := s.pc + 1, program := s.program.tail }) ∧
    (s.clkctrl[7] = true → d[0] = true → s.mr3 = 0#32 →
      exec (.wrTcr d) s = .next { s with fault := some (.zeroPeriod (0xA004#16 ++ d) s.pc) }) ∧
    (s.clkctrl[7] = false →
      exec (.wrTcr d) s = .next { s with fault := some (.unclocked (0xA004#16 ++ d) s.pc) })

/-- R79: TICK is enabled exactly when FAULT is empty, CLKCTRL.TIMER = 1 and TCR.CEN = 1; elsewhere the model stops by name
(log entry 9). -/
def Obligations.TickEnabledExactlyWhenRunning : Prop :=
  ∀ s : State,
    ((∃ t, exec .tick s = .next t) ↔ s.fault = none ∧ s.clkctrl[7] = true ∧ s.tcr[0] = true) ∧
    (s.fault = none → ¬ (s.clkctrl[7] = true ∧ s.tcr[0] = true) → exec .tick s = .refused .tickNotEnabled)

/-- R80, R87, R88: a TICK compares the value TC holds with MR0 and 0 and sets MAT0, samples the pin, and counts modulo 2^W
with the enabled resets; nothing else changes. -/
def Obligations.TickLatchesSamplesAndCounts : Prop :=
  ∀ s : State, s.fault = none → s.clkctrl[7] = true → s.tcr[0] = true → s.mr3 ≠ 0#32 →
    ∃ (m : Bool) (n : Word),
      (m = if s.tc = s.mr0 then true else if s.tc = 0#32 then false else s.mat0) ∧
      n.toNat = (s.tc.toNat + 1) % 2 ^ s.cfg.timerWidth.bits ∧
      exec .tick s = .next { s with
        mat0 := m
        trace := s.trace ++
          [if s.pinPwm.extractLsb' 0 3 = s.cfg.funcPwmMat0 ∧ s.pwmc[0] = true then some m else none]
        tc := if (s.mcr[10] = true ∧ n = s.mr3) ∨ (s.mcr[1] = true ∧ n = s.mr0) then 0#32 else n }

/-- R81: a TICK while MR3 = 0 raises F_ZERO_PERIOD and changes no register; only a WR_MR3 of 0 while the counter runs leads
to such a state. -/
def Obligations.ZeroPeriodTickFaults : Prop :=
  (∀ s : State, s.fault = none → s.clkctrl[7] = true → s.tcr[0] = true → s.mr3 = 0#32 →
    exec .tick s = .next { s with fault := some (.zeroPeriodTick s.tc) }) ∧
  (∀ (i : Instr) (s t : State), (s.tcr[0] = true → s.mr3 ≠ 0#32) → exec i s = .next t →
    t.tcr[0] = true → t.mr3 = 0#32 → s.tcr[0] = true ∧ ∃ d, i = .wrMr3 d ∧ d &&& s.cfg.timerWidth.mask = 0#32)

/-- R82: with MCR = 0x400 and MR3 = P the counter takes the values 0 to P - 1 over and over, one a tick; from P or above it
first runs up to 2^W - 1; with MCR = 0 it runs through all 2^W values. -/
def Obligations.CounterIsPeriodic : Prop :=
  (∀ (s : State) (p k : Nat), s.PeriodSetUp p → p < 2 ^ s.cfg.timerWidth.bits → s.tc.toNat < p →
    ∃ t, ticks k s = .next t ∧ t.tc.toNat = (s.tc.toNat + k) % p) ∧
  (∀ (s : State) (p k : Nat), s.PeriodSetUp p → p ≤ s.tc.toNat → s.tc.toNat < 2 ^ s.cfg.timerWidth.bits →
    s.tc.toNat + k ≤ 2 ^ s.cfg.timerWidth.bits →
    ∃ t, ticks k s = .next t ∧ t.tc.toNat = (s.tc.toNat + k) % 2 ^ s.cfg.timerWidth.bits) ∧
  (∀ (s : State) (k : Nat), s.tickEnabled = true → s.mcr = 0#32 → s.mr3 ≠ 0#32 →
    s.tc.toNat < 2 ^ s.cfg.timerWidth.bits →
    ∃ t, ticks k s = .next t ∧ t.tc.toNat = (s.tc.toNat + k) % 2 ^ s.cfg.timerWidth.bits)

/-- INIT_PWM issues its first transaction, the read of CLKCTRL, in every live state; its other transactions, with the words
R83 lists, become the bus master's next ones. -/
def Obligations.InitPwmStarts : Prop :=
  ∀ s : State, s.fault = none → exec .initPwm s = .next { s with
    readData := some s.clkctrl, pc := s.pc + 1,
    program := .txn (0x8080#16 ++ (s.clkctrl ||| 0x00000080#32)) ::
      .txn (0xA024#16 ++ BitVec.ofNat 32 (s.cfg.timerClkHz / s.cfg.pwmHz)) ::
      .txn (0xA018#16 ++ BitVec.ofNat 32 (s.cfg.timerClkHz / s.cfg.pwmHz)) :: .txn (0xA014#16 ++ 0x00000400#32) ::
      .txn (0xA008#16 ++ 0#32) :: .txn (0xA074#16 ++ 1#32) :: .txn (0xA004#16 ++ 1#32) :: s.program.tail }

/-- R83: the 8 transactions of INIT_PWM, with no TICK between them, complete from every live state of a block with legal
parameters and have together exactly these effects. -/
def Obligations.InitPwmCompletes : Prop :=
  ∀ (s : State) (ls : List Line), s.cfg.WF → s.fault = none → s.program = .initPwm :: ls →
    busRun 8 s = .next { s with
      clkctrl := s.clkctrl ||| 0x00000080#32
      mr3 := BitVec.ofNat 32 (s.cfg.timerClkHz / s.cfg.pwmHz)
      mr0 := BitVec.ofNat 32 (s.cfg.timerClkHz / s.cfg.pwmHz)
      mcr := 0x00000400#32
      tc := 0#32
      pwmc := 1#32
      tcr := 1#32
      readData := some s.clkctrl
      pc := s.pc + 8
      program := ls
      ticksDue := Config.ticksBefore (s.turn + 7)
      turn := s.turn + 8 }

/-- R83 with R2: INIT_PWM from any live state, with TICKs falling anywhere between its transactions: when it is done and no
fault was raised the registers it writes, TC apart, hold its values; the only fault a run of it can meet is a TICK's. -/
def Obligations.InitPwmUnderEveryInterleaving : Prop :=
  ∀ (s t : State) (n : Nat), s.cfg.WF → s.fault = none → s.program = [.initPwm] → Runs n s t →
    (t.fault = none ∨ ∃ c, t.fault = some (.zeroPeriodTick c)) ∧
    (t.fault = none → t.program = [] →
      t.clkctrl = s.clkctrl ||| 0x00000080#32 ∧ t.mr3.toNat = s.cfg.periodValue ∧
      t.mr0.toNat = s.cfg.periodValue ∧ t.mcr = 0x00000400#32 ∧ t.pwmc = 1#32 ∧ t.tcr = 1#32 ∧ t.pc = s.pc + 8 ∧
      t.pinPwm = s.pinPwm)

/-- R84: what INIT_PWM leaves when it is run from reset, for every legal set of parameters; and while MR0 stays as it is,
no output sample of any number of ticks is HIGH. -/
def Obligations.InitPwmFromReset : Prop :=
  ∀ (c : Config) (ls : List Line), c.WF →
    ∃ t, Runs 8 { State.resetOf c with program := .initPwm :: ls } t ∧ t.fault = none ∧ t.pc = 8 ∧ t.program = ls ∧
      t.clkctrl = c.clkctrlReset ||| 0x00000080#32 ∧ t.clkctrl[7] = true ∧ t.mr3.toNat = c.periodValue ∧
      t.mr0.toNat = c.periodValue ∧ t.mcr = 0x00000400#32 ∧ t.tc = 0#32 ∧ t.pwmc = 1#32 ∧ t.tcr = 1#32 ∧
      t.mat0 = false ∧ t.trace = [] ∧
      ∀ k, ∃ u, ticks k t = .next u ∧ u.trace.length = k ∧ some true ∉ u.trace

/-! Duty. -/

/-- R91 with R90: the three policies outside [0, 100], and their agreement inside it. -/
def Obligations.SetDutyFollowsThePolicy : Prop :=
  ∀ (p : Int) (s : State), s.fault = none →
    ((p < 0 ∨ 100 < p) → s.cfg.dutyPolicy = .fault →
      exec (.setDuty p) s = .next { s with fault := some (.dutyRange p s.pc) }) ∧
    (s.clkctrl[7] = true →
      (((p < 0 ∨ 100 < p) → s.cfg.dutyPolicy = .passthrough →
        exec (.setDuty p) s = .next { s with
          mr0 := BitVec.ofInt 32 ((100 - p) * 16) &&& s.cfg.timerWidth.mask
          pc := s.pc + 1
          program := s.program.tail }) ∧
      (p < 0 → s.cfg.dutyPolicy = .clamp →
        exec (.setDuty p) s = .next { s with mr0 := 1600#32, pc := s.pc + 1, program := s.program.tail }) ∧
      (100 < p → s.cfg.dutyPolicy = .clamp →
        exec (.setDuty p) s = .next { s with mr0 := 0#32, pc := s.pc + 1, program := s.program.tail }) ∧
      (0 ≤ p → p ≤ 100 →
        exec (.setDuty p) s = .next { s with
          mr0 := BitVec.ofInt 32 ((100 - p) * 16) &&& s.cfg.timerWidth.mask
          pc := s.pc + 1
          program := s.program.tail }))) ∧
    (s.clkctrl[7] = false → 0 ≤ p → p ≤ 100 →
      exec (.setDuty p) s =
        .next { s with fault := some (.unclocked (0xA018#16 ++ BitVec.ofInt 32 ((100 - p) * 16)) s.pc) })

/-- A percent in [0, 100] leaves MR0 = 1600 - 16 p, with both timer widths and under every policy (R90, R91). -/
def Obligations.SetDutyInRangeStores1600Minus16p : Prop :=
  ∀ (p : Nat) (s : State), p ≤ 100 → s.fault = none → s.clkctrl[7] = true →
    ∃ t, exec (.setDuty p) s = .next t ∧ t.mr0.toNat = 1600 - 16 * p ∧ t.fault = none

/-- R92: DELAY issues no transaction and changes no state of the block; the bus master goes to its next line. -/
def Obligations.DelayChangesNothing : Prop :=
  ∀ s : State, s.fault = none → exec .delay s = .next { s with program := s.program.tail }

/-- R89: in a full cycle of P ticks with MR0 = M the HIGH samples are exactly the ticks with c >= M, P - min(M, P) of them;
with P = 1600 and M = (100 - p) * 16 they are 16 p. -/
def Obligations.FullCycleHighSamples : Prop :=
  (∀ (s : State) (p : Nat), s.PeriodSetUp p → p < 2 ^ s.cfg.timerWidth.bits → s.tc = 0#32 →
    s.pinPwm.extractLsb' 0 3 = s.cfg.funcPwmMat0 → s.pwmc[0] = true →
    ∃ t, ticks p s = .next t ∧ t.tc = 0#32 ∧
      t.trace = s.trace ++ (List.range p).map (fun c => some (decide (s.mr0.toNat ≤ c))) ∧
      highs t.trace = highs s.trace + (p - min s.mr0.toNat p)) ∧
  (∀ p : Nat, p ≤ 100 → 1600 - min ((100 - p) * 16) 1600 = 16 * p)

/-- R93: where MR0 changes from M1 to M2 between the ticks with c = k and c = k + 1, the rest of the cycle is HIGH
throughout if M1 <= k, else HIGH from M2 on if M2 > k, else LOW to its end; the next cycle starts at 0. -/
def Obligations.MidCycleDutyWrite : Prop :=
  ∀ (s : State) (p k : Nat) (d : Word), s.PeriodSetUp p → p < 2 ^ s.cfg.timerWidth.bits → s.tc = 0#32 → k + 1 < p →
    s.pinPwm.extractLsb' 0 3 = s.cfg.funcPwmMat0 → s.pwmc[0] = true →
    ∃ u v t, ticks (k + 1) s = .next u ∧ exec (.wrMr0 d) u = .next v ∧ ticks (p - (k + 1)) v = .next t ∧
      t.tc = 0#32 ∧ t.mr0 = d &&& s.cfg.timerWidth.mask ∧
      t.trace = u.trace ++ (List.range' (k + 1) (p - (k + 1))).map (fun c =>
        some (decide (s.mr0.toNat ≤ k ∨
          (k < (d &&& s.cfg.timerWidth.mask).toNat ∧ (d &&& s.cfg.timerWidth.mask).toNat ≤ c))))

/-- SET_DUTY p sets the duty to p percent (R89, R90): with the period 1600, a SET_DUTY at the start of a cycle makes 16 p of
the cycle's 1600 samples HIGH, for every p in [0, 100], width and policy. -/
def Obligations.SetDutyGivesItsPercentage : Prop :=
  ∀ (s : State) (p : Nat), p ≤ 100 → s.PeriodSetUp 1600 → s.tc = 0#32 →
    s.pinPwm.extractLsb' 0 3 = s.cfg.funcPwmMat0 → s.pwmc[0] = true →
    ∃ u t, exec (.setDuty p) s = .next u ∧ ticks 1600 u = .next t ∧ t.fault = none ∧
      t.trace.length = s.trace.length + 1600 ∧ highs t.trace = highs s.trace + 16 * p

/-! The whole machine. -/

/-- R32: a read has no side effect: where it does not fault it returns the register's value and changes no state but
`pc` (and the bus master's place in its program). -/
def Obligations.ReadsHaveNoSideEffect : Prop :=
  ∀ (r : Reg) (x : Word) (s : State), s.fault = none → s.gateOK r = true →
    exec (.rd r x) s = .next { s with
      readData := some (s.readReg r), pc := s.pc + 1, program := s.program.tail }

/-- R33: two reads of a register other than TC return the same value whatever ticks fall between them, two reads of TC do
so with none between, and a second write of the same value leaves the state the first one left; that the write of it does
not fault is assumed of the first only. -/
def Obligations.RepeatedAccessesAgree : Prop :=
  (∀ (r : Reg) (x y : Word) (k : Nat) (s u v t : State), (r ≠ .tc ∨ k = 0) → s.gateOK r = true →
    exec (.rd r x) s = .next u → ticks k u = .next v → exec (.rd r y) v = .next t →
    t.readData = u.readData) ∧
  (∀ (r : Reg) (d : Word) (s u : State), exec (.wr r d) s = .next u → u.fault = none →
    exec (.wr r d) u = .next { u with pc := u.pc + 1, program := u.program.tail })

/-- A register changes only by its own write, MR0 also by SET_DUTY and TC also by TICK; so no operation touches a register
it does not name (R44, R80, R90). -/
def Obligations.RegistersChangeByTheirOwnWrite : Prop :=
  ∀ (i : Instr) (s t : State) (r : Reg), exec i s = .next t → t.stored r ≠ s.stored r →
    (∃ d, i = .wr r d) ∨ (r = .mr0 ∧ ∃ p, i = .setDuty p) ∨ (r = .tc ∧ i = .tick)

/-- R22: only a TICK writes MAT0; and only a TICK adds to the output trace. -/
def Obligations.OnlyTicksMoveTheOutput : Prop :=
  ∀ (i : Instr) (s t : State), exec i s = .next t → i ≠ .tick → t.mat0 = s.mat0 ∧ t.trace = s.trace

/-- The parameters are fixed: no step of the machine and no operation changes one (00_scope.md section 5). -/
def Obligations.ParametersNeverChange : Prop :=
  ∀ s t : State, (step s = .next t ∨ ∃ i, exec i s = .next t) → t.cfg = s.cfg

/-- R102: what reset leaves, for every set of parameters; no TICK is enabled and the PWM pin is not observable. `readData`,
`ticksDue` and `turn` are the model's own (log entries 1 and 6) and nothing is said of them. -/
def Obligations.ResetLeavesTheResetValues : Prop :=
  ∀ c : Config, c.WF →
    (State.resetOf c).clkctrl = c.clkctrlReset ∧ (State.resetOf c).clkctrl[6] = false ∧
    (State.resetOf c).clkctrl[7] = false ∧ (State.resetOf c).clkctrl[16] = false ∧
    (State.resetOf c).pinOd = c.pinResetOd ∧ (State.resetOf c).pinDbg0 = c.pinResetDbg0 ∧
    (State.resetOf c).pinDbg1 = c.pinResetDbg1 ∧ (State.resetOf c).pinPwm = c.pinResetPwm ∧
    (State.resetOf c).tcr = 0#32 ∧ (State.resetOf c).tc = 0#32 ∧ (State.resetOf c).mcr = 0#32 ∧
    (State.resetOf c).mr0 = 0#32 ∧ (State.resetOf c).mr3 = 0#32 ∧ (State.resetOf c).pwmc = 0#32 ∧
    (State.resetOf c).mat0 = false ∧ (State.resetOf c).fault = none ∧ (State.resetOf c).pc = 0 ∧
    (State.resetOf c).trace = [] ∧ (State.resetOf c).tickEnabled = false ∧ (State.resetOf c).pwmPin = none

/-- The invariant holds after reset, for every legal set of parameters, and of the model's own reset state. -/
def Obligations.ResetMeetsTheInvariant : Prop :=
  (∀ c : Config, c.WF → (State.resetOf c).Inv) ∧ State.reset.Inv

/-- Every step keeps the invariant: legal parameters, reserved bits 0 (R13), and gated-off groups at their reset values
(R54), from every state that meets it. -/
def Obligations.StepKeepsTheInvariant : Prop :=
  ∀ s t : State, s.Inv → step s = .next t → t.Inv

/-- R104: CONFIGURE_PINS, INIT_PWM, then any SET_DUTYs within [0, 100] and DELAYs, from reset with any legal parameters and
any interleaving of ticks, never raise a fault and never stop; once the first two are through and R107's condition holds
the pin is observable. The other order of the first two raises no fault either. -/
def Obligations.BootSequenceNeverFaults : Prop :=
  ∀ (c : Config) (ls : List Line) (n : Nat), c.WF →
    (∀ l ∈ ls, l = .delay ∨ ∃ p : BitVec 32, l = .setDuty p ∧ 0 ≤ p.toInt ∧ p.toInt ≤ 100) →
    (∃ t, Runs n { State.resetOf c with program := .configurePins :: .initPwm :: ls } t ∧ t.fault = none ∧
      (t.program.length ≤ ls.length → (c.pinResetPwm.extractLsb' 0 3) &&& ~~~c.funcPwmMat0 = 0#3 →
        t.pwmPin = some t.mat0)) ∧
    (∃ t, Runs n { State.resetOf c with program := .initPwm :: .configurePins :: ls } t ∧ t.fault = none)
end

