-- ==== Sys2Proof/Laws/Decode.lean ====
section
/-! SUPPORT. The fields of a transaction word and the register map. -/

namespace Sys2Proof

/-- A bit of a transaction word is a DATA bit below 32 and a header bit from 32 on. -/
theorem txnWord_getLsbD (b : Bool) (r : Reg) (d : Word) (i : Nat) :
    (txnWord b r d).getLsbD i = if i < 32 then d.getLsbD i else (header b r).getLsbD (i - 32) :=
  BitVec.getLsbD_append

@[simp] theorem txnData_txnWord (b : Bool) (r : Reg) (d : Word) : txnData (txnWord b r d) = d := by
  apply BitVec.eq_of_getLsbD_eq
  intro i hi
  simp [txnData, txnWord_getLsbD, hi]

@[simp] theorem txnBlk_txnWord (b : Bool) (r : Reg) (d : Word) : txnBlk (txnWord b r d) = r.blk := by
  have h : txnBlk (txnWord b r d) = (header b r).extractLsb' 12 3 := by
    apply BitVec.eq_of_getLsbD_eq
    intro i hi
    simp [txnBlk, txnWord_getLsbD, hi, show ¬ 44 + i < 32 by omega, show 44 + i - 32 = 12 + i by omega]
  rw [h]
  cases b <;> cases r <;> rfl

@[simp] theorem txnOff_txnWord (b : Bool) (r : Reg) (d : Word) : txnOff (txnWord b r d) = r.off := by
  have h : txnOff (txnWord b r d) = (header b r).extractLsb' 0 12 := by
    apply BitVec.eq_of_getLsbD_eq
    intro i hi
    simp [txnOff, txnWord_getLsbD, hi]
  rw [h]
  cases b <;> cases r <;> rfl

@[simp] theorem txnW_txnWord (b : Bool) (r : Reg) (d : Word) : txnW (txnWord b r d) = b := by
  rw [txnW, txnWord_getLsbD]
  cases b <;> cases r <;> rfl

/-- A word is put together again from its fields, for a register that stands at its group and offset. -/
theorem txnWord_of_fields (w : Txn) (r : Reg) (hb : r.blk = txnBlk w) (ho : r.off = txnOff w) :
    txnWord (txnW w) r (txnData w) = w := by
  apply BitVec.eq_of_getLsbD_eq
  intro i hi
  have hh : ∀ j, (header (txnW w) r).getLsbD j =
      if j < 12 then r.off.getLsbD j else if j - 12 < 3 then r.blk.getLsbD (j - 12)
        else (BitVec.ofBool (txnW w)).getLsbD (j - 12 - 3) := by
    intro j
    exact (BitVec.getLsbD_append (x := BitVec.ofBool (txnW w) ++ r.blk) (y := r.off)).trans
      (by rw [BitVec.getLsbD_append])
  rw [txnWord_getLsbD, hh, hb, ho]
  by_cases h1 : i < 32
  · simp [h1, txnData]
  by_cases h2 : i - 32 < 12
  · simp [h1, h2, txnOff, show 32 + (i - 32) = i by omega]
  by_cases h3 : i - 32 - 12 < 3
  · simp [h1, h2, h3, txnBlk, show 44 + (i - 32 - 12) = i by omega]
  · have : i = 47 := by omega
    subst this
    simp [txnW]

/-- The register map's search finds exactly the register at a group and offset. -/
theorem find_allRegs (b : BitVec 3) (o : BitVec 12) (r : Reg) :
    allRegs.find? (fun q => q.blk == b && q.off == o) = some r ↔ r.blk = b ∧ r.off = o := by
  constructor
  · intro h
    simpa using List.find?_some h
  · rintro ⟨rfl, rfl⟩
    cases r <;> rfl

@[simp] theorem regAt_blk_off (r : Reg) : regAt r.blk r.off = .ok r := by cases r <;> rfl

theorem regAt_ok {b : BitVec 3} {o : BitVec 12} {r : Reg} (h : regAt b o = .ok r) : r.blk = b ∧ r.off = o := by
  unfold regAt at h
  split at h
  · cases h
  split at h
  · cases h
  split at h
  · rename_i q hq
    cases h
    exact (find_allRegs _ _ _).1 hq
  · cases h

/-- What the decoder reads from a word it accepts. -/
theorem decode_ok {w : Txn} {i : Instr} (h : decode w = .ok i) :
    ∃ r, w = txnWord (txnW w) r (txnData w) ∧ i = if txnW w then .wr r (txnData w) else .rd r (txnData w) := by
  unfold decode at h
  split at h
  · cases h
  · rename_i r hr
    cases h
    exact ⟨r, (txnWord_of_fields w r (regAt_ok hr).1 (regAt_ok hr).2).symm, rfl⟩

@[simp] theorem decode_txnWord (b : Bool) (r : Reg) (d : Word) :
    decode (txnWord b r d) = .ok (if b then .wr r d else .rd r d) := by
  simp [decode]

@[simp] theorem decode_rdWord (r : Reg) (x : Word) : decode (rdWord r x) = .ok (.rd r x) := by simp [rdWord]
@[simp] theorem decode_wrWord (r : Reg) (d : Word) : decode (wrWord r d) = .ok (.wr r d) := by simp [wrWord]

end Sys2Proof
end

