-- ==== Sys2Proof/Laws/State.lean ====
section
/-! SUPPORT. One lemma per field per named update of the state, and what the derived views of the state depend on. -/

namespace Sys2Proof.Machine

/-! `retire` -/

@[simp] theorem State.retire_cfg (s : State) : (s.retire).cfg = s.cfg := rfl
@[simp] theorem State.retire_clkctrl (s : State) : (s.retire).clkctrl = s.clkctrl := rfl
@[simp] theorem State.retire_pinOd (s : State) : (s.retire).pinOd = s.pinOd := rfl
@[simp] theorem State.retire_pinDbg0 (s : State) : (s.retire).pinDbg0 = s.pinDbg0 := rfl
@[simp] theorem State.retire_pinDbg1 (s : State) : (s.retire).pinDbg1 = s.pinDbg1 := rfl
@[simp] theorem State.retire_pinPwm (s : State) : (s.retire).pinPwm = s.pinPwm := rfl
@[simp] theorem State.retire_tcr (s : State) : (s.retire).tcr = s.tcr := rfl
@[simp] theorem State.retire_tc (s : State) : (s.retire).tc = s.tc := rfl
@[simp] theorem State.retire_mcr (s : State) : (s.retire).mcr = s.mcr := rfl
@[simp] theorem State.retire_mr0 (s : State) : (s.retire).mr0 = s.mr0 := rfl
@[simp] theorem State.retire_mr3 (s : State) : (s.retire).mr3 = s.mr3 := rfl
@[simp] theorem State.retire_pwmc (s : State) : (s.retire).pwmc = s.pwmc := rfl
@[simp] theorem State.retire_mat0 (s : State) : (s.retire).mat0 = s.mat0 := rfl
@[simp] theorem State.retire_fault (s : State) : (s.retire).fault = s.fault := rfl
@[simp] theorem State.retire_pc (s : State) : (s.retire).pc = s.pc + 1 := rfl
@[simp] theorem State.retire_program (s : State) : (s.retire).program = s.program.tail := rfl
@[simp] theorem State.retire_readData (s : State) : (s.retire).readData = s.readData := rfl
@[simp] theorem State.retire_trace (s : State) : (s.retire).trace = s.trace := rfl
@[simp] theorem State.retire_ticksDue (s : State) : (s.retire).ticksDue = s.ticksDue := rfl
@[simp] theorem State.retire_turn (s : State) : (s.retire).turn = s.turn := rfl

/-! `retireTo` -/

@[simp] theorem State.retireTo_cfg (s : State) (ls : List Line) : (s.retireTo ls).cfg = s.cfg := rfl
@[simp] theorem State.retireTo_clkctrl (s : State) (ls : List Line) : (s.retireTo ls).clkctrl = s.clkctrl := rfl
@[simp] theorem State.retireTo_pinOd (s : State) (ls : List Line) : (s.retireTo ls).pinOd = s.pinOd := rfl
@[simp] theorem State.retireTo_pinDbg0 (s : State) (ls : List Line) : (s.retireTo ls).pinDbg0 = s.pinDbg0 := rfl
@[simp] theorem State.retireTo_pinDbg1 (s : State) (ls : List Line) : (s.retireTo ls).pinDbg1 = s.pinDbg1 := rfl
@[simp] theorem State.retireTo_pinPwm (s : State) (ls : List Line) : (s.retireTo ls).pinPwm = s.pinPwm := rfl
@[simp] theorem State.retireTo_tcr (s : State) (ls : List Line) : (s.retireTo ls).tcr = s.tcr := rfl
@[simp] theorem State.retireTo_tc (s : State) (ls : List Line) : (s.retireTo ls).tc = s.tc := rfl
@[simp] theorem State.retireTo_mcr (s : State) (ls : List Line) : (s.retireTo ls).mcr = s.mcr := rfl
@[simp] theorem State.retireTo_mr0 (s : State) (ls : List Line) : (s.retireTo ls).mr0 = s.mr0 := rfl
@[simp] theorem State.retireTo_mr3 (s : State) (ls : List Line) : (s.retireTo ls).mr3 = s.mr3 := rfl
@[simp] theorem State.retireTo_pwmc (s : State) (ls : List Line) : (s.retireTo ls).pwmc = s.pwmc := rfl
@[simp] theorem State.retireTo_mat0 (s : State) (ls : List Line) : (s.retireTo ls).mat0 = s.mat0 := rfl
@[simp] theorem State.retireTo_fault (s : State) (ls : List Line) : (s.retireTo ls).fault = s.fault := rfl
@[simp] theorem State.retireTo_pc (s : State) (ls : List Line) : (s.retireTo ls).pc = s.pc + 1 := rfl
@[simp] theorem State.retireTo_program (s : State) (ls : List Line) : (s.retireTo ls).program = ls ++ s.program.tail := rfl
@[simp] theorem State.retireTo_readData (s : State) (ls : List Line) : (s.retireTo ls).readData = s.readData := rfl
@[simp] theorem State.retireTo_trace (s : State) (ls : List Line) : (s.retireTo ls).trace = s.trace := rfl
@[simp] theorem State.retireTo_ticksDue (s : State) (ls : List Line) : (s.retireTo ls).ticksDue = s.ticksDue := rfl
@[simp] theorem State.retireTo_turn (s : State) (ls : List Line) : (s.retireTo ls).turn = s.turn := rfl

/-! `returned` -/

@[simp] theorem State.returned_cfg (s : State) (v : Word) : (s.returned v).cfg = s.cfg := rfl
@[simp] theorem State.returned_clkctrl (s : State) (v : Word) : (s.returned v).clkctrl = s.clkctrl := rfl
@[simp] theorem State.returned_pinOd (s : State) (v : Word) : (s.returned v).pinOd = s.pinOd := rfl
@[simp] theorem State.returned_pinDbg0 (s : State) (v : Word) : (s.returned v).pinDbg0 = s.pinDbg0 := rfl
@[simp] theorem State.returned_pinDbg1 (s : State) (v : Word) : (s.returned v).pinDbg1 = s.pinDbg1 := rfl
@[simp] theorem State.returned_pinPwm (s : State) (v : Word) : (s.returned v).pinPwm = s.pinPwm := rfl
@[simp] theorem State.returned_tcr (s : State) (v : Word) : (s.returned v).tcr = s.tcr := rfl
@[simp] theorem State.returned_tc (s : State) (v : Word) : (s.returned v).tc = s.tc := rfl
@[simp] theorem State.returned_mcr (s : State) (v : Word) : (s.returned v).mcr = s.mcr := rfl
@[simp] theorem State.returned_mr0 (s : State) (v : Word) : (s.returned v).mr0 = s.mr0 := rfl
@[simp] theorem State.returned_mr3 (s : State) (v : Word) : (s.returned v).mr3 = s.mr3 := rfl
@[simp] theorem State.returned_pwmc (s : State) (v : Word) : (s.returned v).pwmc = s.pwmc := rfl
@[simp] theorem State.returned_mat0 (s : State) (v : Word) : (s.returned v).mat0 = s.mat0 := rfl
@[simp] theorem State.returned_fault (s : State) (v : Word) : (s.returned v).fault = s.fault := rfl
@[simp] theorem State.returned_pc (s : State) (v : Word) : (s.returned v).pc = s.pc := rfl
@[simp] theorem State.returned_program (s : State) (v : Word) : (s.returned v).program = s.program := rfl
@[simp] theorem State.returned_readData (s : State) (v : Word) : (s.returned v).readData = some v := rfl
@[simp] theorem State.returned_trace (s : State) (v : Word) : (s.returned v).trace = s.trace := rfl
@[simp] theorem State.returned_ticksDue (s : State) (v : Word) : (s.returned v).ticksDue = s.ticksDue := rfl
@[simp] theorem State.returned_turn (s : State) (v : Word) : (s.returned v).turn = s.turn := rfl

/-! `faulted` -/

@[simp] theorem State.faulted_cfg (s : State) (f : Fault) : (s.faulted f).cfg = s.cfg := rfl
@[simp] theorem State.faulted_clkctrl (s : State) (f : Fault) : (s.faulted f).clkctrl = s.clkctrl := rfl
@[simp] theorem State.faulted_pinOd (s : State) (f : Fault) : (s.faulted f).pinOd = s.pinOd := rfl
@[simp] theorem State.faulted_pinDbg0 (s : State) (f : Fault) : (s.faulted f).pinDbg0 = s.pinDbg0 := rfl
@[simp] theorem State.faulted_pinDbg1 (s : State) (f : Fault) : (s.faulted f).pinDbg1 = s.pinDbg1 := rfl
@[simp] theorem State.faulted_pinPwm (s : State) (f : Fault) : (s.faulted f).pinPwm = s.pinPwm := rfl
@[simp] theorem State.faulted_tcr (s : State) (f : Fault) : (s.faulted f).tcr = s.tcr := rfl
@[simp] theorem State.faulted_tc (s : State) (f : Fault) : (s.faulted f).tc = s.tc := rfl
@[simp] theorem State.faulted_mcr (s : State) (f : Fault) : (s.faulted f).mcr = s.mcr := rfl
@[simp] theorem State.faulted_mr0 (s : State) (f : Fault) : (s.faulted f).mr0 = s.mr0 := rfl
@[simp] theorem State.faulted_mr3 (s : State) (f : Fault) : (s.faulted f).mr3 = s.mr3 := rfl
@[simp] theorem State.faulted_pwmc (s : State) (f : Fault) : (s.faulted f).pwmc = s.pwmc := rfl
@[simp] theorem State.faulted_mat0 (s : State) (f : Fault) : (s.faulted f).mat0 = s.mat0 := rfl
@[simp] theorem State.faulted_fault (s : State) (f : Fault) : (s.faulted f).fault = some f := rfl
@[simp] theorem State.faulted_pc (s : State) (f : Fault) : (s.faulted f).pc = s.pc := rfl
@[simp] theorem State.faulted_program (s : State) (f : Fault) : (s.faulted f).program = s.program := rfl
@[simp] theorem State.faulted_readData (s : State) (f : Fault) : (s.faulted f).readData = s.readData := rfl
@[simp] theorem State.faulted_trace (s : State) (f : Fault) : (s.faulted f).trace = s.trace := rfl
@[simp] theorem State.faulted_ticksDue (s : State) (f : Fault) : (s.faulted f).ticksDue = s.ticksDue := rfl
@[simp] theorem State.faulted_turn (s : State) (f : Fault) : (s.faulted f).turn = s.turn := rfl

/-! `skipLine` -/

@[simp] theorem State.skipLine_cfg (s : State) : s.skipLine.cfg = s.cfg := rfl
@[simp] theorem State.skipLine_clkctrl (s : State) : s.skipLine.clkctrl = s.clkctrl := rfl
@[simp] theorem State.skipLine_pinOd (s : State) : s.skipLine.pinOd = s.pinOd := rfl
@[simp] theorem State.skipLine_pinDbg0 (s : State) : s.skipLine.pinDbg0 = s.pinDbg0 := rfl
@[simp] theorem State.skipLine_pinDbg1 (s : State) : s.skipLine.pinDbg1 = s.pinDbg1 := rfl
@[simp] theorem State.skipLine_pinPwm (s : State) : s.skipLine.pinPwm = s.pinPwm := rfl
@[simp] theorem State.skipLine_tcr (s : State) : s.skipLine.tcr = s.tcr := rfl
@[simp] theorem State.skipLine_tc (s : State) : s.skipLine.tc = s.tc := rfl
@[simp] theorem State.skipLine_mcr (s : State) : s.skipLine.mcr = s.mcr := rfl
@[simp] theorem State.skipLine_mr0 (s : State) : s.skipLine.mr0 = s.mr0 := rfl
@[simp] theorem State.skipLine_mr3 (s : State) : s.skipLine.mr3 = s.mr3 := rfl
@[simp] theorem State.skipLine_pwmc (s : State) : s.skipLine.pwmc = s.pwmc := rfl
@[simp] theorem State.skipLine_mat0 (s : State) : s.skipLine.mat0 = s.mat0 := rfl
@[simp] theorem State.skipLine_fault (s : State) : s.skipLine.fault = s.fault := rfl
@[simp] theorem State.skipLine_pc (s : State) : s.skipLine.pc = s.pc := rfl
@[simp] theorem State.skipLine_program (s : State) : s.skipLine.program = s.program.tail := rfl
@[simp] theorem State.skipLine_readData (s : State) : s.skipLine.readData = s.readData := rfl
@[simp] theorem State.skipLine_trace (s : State) : s.skipLine.trace = s.trace := rfl
@[simp] theorem State.skipLine_ticksDue (s : State) : s.skipLine.ticksDue = s.ticksDue := rfl
@[simp] theorem State.skipLine_turn (s : State) : s.skipLine.turn = s.turn := rfl

/-! `rearm` -/

@[simp] theorem State.rearm_cfg (s : State) : (s.rearm).cfg = s.cfg := rfl
@[simp] theorem State.rearm_clkctrl (s : State) : (s.rearm).clkctrl = s.clkctrl := rfl
@[simp] theorem State.rearm_pinOd (s : State) : (s.rearm).pinOd = s.pinOd := rfl
@[simp] theorem State.rearm_pinDbg0 (s : State) : (s.rearm).pinDbg0 = s.pinDbg0 := rfl
@[simp] theorem State.rearm_pinDbg1 (s : State) : (s.rearm).pinDbg1 = s.pinDbg1 := rfl
@[simp] theorem State.rearm_pinPwm (s : State) : (s.rearm).pinPwm = s.pinPwm := rfl
@[simp] theorem State.rearm_tcr (s : State) : (s.rearm).tcr = s.tcr := rfl
@[simp] theorem State.rearm_tc (s : State) : (s.rearm).tc = s.tc := rfl
@[simp] theorem State.rearm_mcr (s : State) : (s.rearm).mcr = s.mcr := rfl
@[simp] theorem State.rearm_mr0 (s : State) : (s.rearm).mr0 = s.mr0 := rfl
@[simp] theorem State.rearm_mr3 (s : State) : (s.rearm).mr3 = s.mr3 := rfl
@[simp] theorem State.rearm_pwmc (s : State) : (s.rearm).pwmc = s.pwmc := rfl
@[simp] theorem State.rearm_mat0 (s : State) : (s.rearm).mat0 = s.mat0 := rfl
@[simp] theorem State.rearm_fault (s : State) : (s.rearm).fault = s.fault := rfl
@[simp] theorem State.rearm_pc (s : State) : (s.rearm).pc = s.pc := rfl
@[simp] theorem State.rearm_program (s : State) : (s.rearm).program = s.program := rfl
@[simp] theorem State.rearm_readData (s : State) : (s.rearm).readData = s.readData := rfl
@[simp] theorem State.rearm_trace (s : State) : (s.rearm).trace = s.trace := rfl
@[simp] theorem State.rearm_ticksDue (s : State) : (s.rearm).ticksDue = Config.ticksBefore s.turn := rfl
@[simp] theorem State.rearm_turn (s : State) : (s.rearm).turn = s.turn + 1 := rfl

/-! `tickTaken` -/

@[simp] theorem State.tickTaken_cfg (s : State) : (s.tickTaken).cfg = s.cfg := rfl
@[simp] theorem State.tickTaken_clkctrl (s : State) : (s.tickTaken).clkctrl = s.clkctrl := rfl
@[simp] theorem State.tickTaken_pinOd (s : State) : (s.tickTaken).pinOd = s.pinOd := rfl
@[simp] theorem State.tickTaken_pinDbg0 (s : State) : (s.tickTaken).pinDbg0 = s.pinDbg0 := rfl
@[simp] theorem State.tickTaken_pinDbg1 (s : State) : (s.tickTaken).pinDbg1 = s.pinDbg1 := rfl
@[simp] theorem State.tickTaken_pinPwm (s : State) : (s.tickTaken).pinPwm = s.pinPwm := rfl
@[simp] theorem State.tickTaken_tcr (s : State) : (s.tickTaken).tcr = s.tcr := rfl
@[simp] theorem State.tickTaken_tc (s : State) : (s.tickTaken).tc = s.tc := rfl
@[simp] theorem State.tickTaken_mcr (s : State) : (s.tickTaken).mcr = s.mcr := rfl
@[simp] theorem State.tickTaken_mr0 (s : State) : (s.tickTaken).mr0 = s.mr0 := rfl
@[simp] theorem State.tickTaken_mr3 (s : State) : (s.tickTaken).mr3 = s.mr3 := rfl
@[simp] theorem State.tickTaken_pwmc (s : State) : (s.tickTaken).pwmc = s.pwmc := rfl
@[simp] theorem State.tickTaken_mat0 (s : State) : (s.tickTaken).mat0 = s.mat0 := rfl
@[simp] theorem State.tickTaken_fault (s : State) : (s.tickTaken).fault = s.fault := rfl
@[simp] theorem State.tickTaken_pc (s : State) : (s.tickTaken).pc = s.pc := rfl
@[simp] theorem State.tickTaken_program (s : State) : (s.tickTaken).program = s.program := rfl
@[simp] theorem State.tickTaken_readData (s : State) : (s.tickTaken).readData = s.readData := rfl
@[simp] theorem State.tickTaken_trace (s : State) : (s.tickTaken).trace = s.trace := rfl
@[simp] theorem State.tickTaken_ticksDue (s : State) : (s.tickTaken).ticksDue = s.ticksDue - 1 := rfl
@[simp] theorem State.tickTaken_turn (s : State) : (s.tickTaken).turn = s.turn := rfl

/-! `pwmLatch` -/

@[simp] theorem State.pwmLatch_cfg (s : State) (c : Word) : (s.pwmLatch c).cfg = s.cfg := rfl
@[simp] theorem State.pwmLatch_clkctrl (s : State) (c : Word) : (s.pwmLatch c).clkctrl = s.clkctrl := rfl
@[simp] theorem State.pwmLatch_pinOd (s : State) (c : Word) : (s.pwmLatch c).pinOd = s.pinOd := rfl
@[simp] theorem State.pwmLatch_pinDbg0 (s : State) (c : Word) : (s.pwmLatch c).pinDbg0 = s.pinDbg0 := rfl
@[simp] theorem State.pwmLatch_pinDbg1 (s : State) (c : Word) : (s.pwmLatch c).pinDbg1 = s.pinDbg1 := rfl
@[simp] theorem State.pwmLatch_pinPwm (s : State) (c : Word) : (s.pwmLatch c).pinPwm = s.pinPwm := rfl
@[simp] theorem State.pwmLatch_tcr (s : State) (c : Word) : (s.pwmLatch c).tcr = s.tcr := rfl
@[simp] theorem State.pwmLatch_tc (s : State) (c : Word) : (s.pwmLatch c).tc = s.tc := rfl
@[simp] theorem State.pwmLatch_mcr (s : State) (c : Word) : (s.pwmLatch c).mcr = s.mcr := rfl
@[simp] theorem State.pwmLatch_mr0 (s : State) (c : Word) : (s.pwmLatch c).mr0 = s.mr0 := rfl
@[simp] theorem State.pwmLatch_mr3 (s : State) (c : Word) : (s.pwmLatch c).mr3 = s.mr3 := rfl
@[simp] theorem State.pwmLatch_pwmc (s : State) (c : Word) : (s.pwmLatch c).pwmc = s.pwmc := rfl
@[simp] theorem State.pwmLatch_mat0 (s : State) (c : Word) : (s.pwmLatch c).mat0 = s.latched c := rfl
@[simp] theorem State.pwmLatch_fault (s : State) (c : Word) : (s.pwmLatch c).fault = s.fault := rfl
@[simp] theorem State.pwmLatch_pc (s : State) (c : Word) : (s.pwmLatch c).pc = s.pc := rfl
@[simp] theorem State.pwmLatch_program (s : State) (c : Word) : (s.pwmLatch c).program = s.program := rfl
@[simp] theorem State.pwmLatch_readData (s : State) (c : Word) : (s.pwmLatch c).readData = s.readData := rfl
@[simp] theorem State.pwmLatch_trace (s : State) (c : Word) : (s.pwmLatch c).trace = s.trace ++ [({ s with mat0 := s.latched c } : State).pwmPin] := rfl
@[simp] theorem State.pwmLatch_ticksDue (s : State) (c : Word) : (s.pwmLatch c).ticksDue = s.ticksDue := rfl
@[simp] theorem State.pwmLatch_turn (s : State) (c : Word) : (s.pwmLatch c).turn = s.turn := rfl

/-! `ticked` -/

@[simp] theorem State.ticked_cfg (s : State) : (s.ticked).cfg = s.cfg := rfl
@[simp] theorem State.ticked_clkctrl (s : State) : (s.ticked).clkctrl = s.clkctrl := rfl
@[simp] theorem State.ticked_pinOd (s : State) : (s.ticked).pinOd = s.pinOd := rfl
@[simp] theorem State.ticked_pinDbg0 (s : State) : (s.ticked).pinDbg0 = s.pinDbg0 := rfl
@[simp] theorem State.ticked_pinDbg1 (s : State) : (s.ticked).pinDbg1 = s.pinDbg1 := rfl
@[simp] theorem State.ticked_pinPwm (s : State) : (s.ticked).pinPwm = s.pinPwm := rfl
@[simp] theorem State.ticked_tcr (s : State) : (s.ticked).tcr = s.tcr := rfl
@[simp] theorem State.ticked_tc (s : State) : (s.ticked).tc = s.nextCount s.tc := rfl
@[simp] theorem State.ticked_mcr (s : State) : (s.ticked).mcr = s.mcr := rfl
@[simp] theorem State.ticked_mr0 (s : State) : (s.ticked).mr0 = s.mr0 := rfl
@[simp] theorem State.ticked_mr3 (s : State) : (s.ticked).mr3 = s.mr3 := rfl
@[simp] theorem State.ticked_pwmc (s : State) : (s.ticked).pwmc = s.pwmc := rfl
@[simp] theorem State.ticked_mat0 (s : State) : (s.ticked).mat0 = s.latched s.tc := rfl
@[simp] theorem State.ticked_fault (s : State) : (s.ticked).fault = s.fault := rfl
@[simp] theorem State.ticked_pc (s : State) : (s.ticked).pc = s.pc := rfl
@[simp] theorem State.ticked_program (s : State) : (s.ticked).program = s.program := rfl
@[simp] theorem State.ticked_readData (s : State) : (s.ticked).readData = s.readData := rfl
@[simp] theorem State.ticked_trace (s : State) : (s.ticked).trace = s.trace ++ [({ s with mat0 := s.latched s.tc } : State).pwmPin] := rfl
@[simp] theorem State.ticked_ticksDue (s : State) : (s.ticked).ticksDue = s.ticksDue := rfl
@[simp] theorem State.ticked_turn (s : State) : (s.ticked).turn = s.turn := rfl

/-! `withFetchWord` -/

@[simp] theorem State.withFetchWord_cfg (s : State) (n w : Nat) : (s.withFetchWord n w).cfg = s.cfg := rfl
@[simp] theorem State.withFetchWord_clkctrl (s : State) (n w : Nat) : (s.withFetchWord n w).clkctrl = s.clkctrl := rfl
@[simp] theorem State.withFetchWord_pinOd (s : State) (n w : Nat) : (s.withFetchWord n w).pinOd = s.pinOd := rfl
@[simp] theorem State.withFetchWord_pinDbg0 (s : State) (n w : Nat) : (s.withFetchWord n w).pinDbg0 = s.pinDbg0 := rfl
@[simp] theorem State.withFetchWord_pinDbg1 (s : State) (n w : Nat) : (s.withFetchWord n w).pinDbg1 = s.pinDbg1 := rfl
@[simp] theorem State.withFetchWord_pinPwm (s : State) (n w : Nat) : (s.withFetchWord n w).pinPwm = s.pinPwm := rfl
@[simp] theorem State.withFetchWord_tcr (s : State) (n w : Nat) : (s.withFetchWord n w).tcr = s.tcr := rfl
@[simp] theorem State.withFetchWord_tc (s : State) (n w : Nat) : (s.withFetchWord n w).tc = s.tc := rfl
@[simp] theorem State.withFetchWord_mcr (s : State) (n w : Nat) : (s.withFetchWord n w).mcr = s.mcr := rfl
@[simp] theorem State.withFetchWord_mr0 (s : State) (n w : Nat) : (s.withFetchWord n w).mr0 = s.mr0 := rfl
@[simp] theorem State.withFetchWord_mr3 (s : State) (n w : Nat) : (s.withFetchWord n w).mr3 = s.mr3 := rfl
@[simp] theorem State.withFetchWord_pwmc (s : State) (n w : Nat) : (s.withFetchWord n w).pwmc = s.pwmc := rfl
@[simp] theorem State.withFetchWord_mat0 (s : State) (n w : Nat) : (s.withFetchWord n w).mat0 = s.mat0 := rfl
@[simp] theorem State.withFetchWord_fault (s : State) (n w : Nat) : (s.withFetchWord n w).fault = s.fault := rfl
@[simp] theorem State.withFetchWord_pc (s : State) (n w : Nat) : (s.withFetchWord n w).pc = s.pc := rfl
@[simp] theorem State.withFetchWord_program (s : State) (n w : Nat) : (s.withFetchWord n w).program = .txn (wordOfBits n w) :: s.program.tail := rfl
@[simp] theorem State.withFetchWord_readData (s : State) (n w : Nat) : (s.withFetchWord n w).readData = s.readData := rfl
@[simp] theorem State.withFetchWord_trace (s : State) (n w : Nat) : (s.withFetchWord n w).trace = s.trace := rfl
@[simp] theorem State.withFetchWord_ticksDue (s : State) (n w : Nat) : (s.withFetchWord n w).ticksDue = 0 := rfl
@[simp] theorem State.withFetchWord_turn (s : State) (n w : Nat) : (s.withFetchWord n w).turn = s.turn := rfl

/-! `store` and `writeReg` -/

@[simp] theorem State.store_eq_clkctrl (s : State) (v : Word) : s.store .clkctrl v = { s with clkctrl := v } := rfl
@[simp] theorem State.store_eq_pinOd (s : State) (v : Word) : s.store .pinOd v = { s with pinOd := v } := rfl
@[simp] theorem State.store_eq_pinDbg0 (s : State) (v : Word) : s.store .pinDbg0 v = { s with pinDbg0 := v } := rfl
@[simp] theorem State.store_eq_pinDbg1 (s : State) (v : Word) : s.store .pinDbg1 v = { s with pinDbg1 := v } := rfl
@[simp] theorem State.store_eq_pinPwm (s : State) (v : Word) : s.store .pinPwm v = { s with pinPwm := v } := rfl
@[simp] theorem State.store_eq_tcr (s : State) (v : Word) : s.store .tcr v = { s with tcr := v } := rfl
@[simp] theorem State.store_eq_tc (s : State) (v : Word) : s.store .tc v = { s with tc := v } := rfl
@[simp] theorem State.store_eq_mcr (s : State) (v : Word) : s.store .mcr v = { s with mcr := v } := rfl
@[simp] theorem State.store_eq_mr0 (s : State) (v : Word) : s.store .mr0 v = { s with mr0 := v } := rfl
@[simp] theorem State.store_eq_mr3 (s : State) (v : Word) : s.store .mr3 v = { s with mr3 := v } := rfl
@[simp] theorem State.store_eq_pwmc (s : State) (v : Word) : s.store .pwmc v = { s with pwmc := v } := rfl

@[simp] theorem State.store_cfg (s : State) (r : Reg) (v : Word) : (s.store r v).cfg = s.cfg := by cases r <;> rfl
@[simp] theorem State.store_mat0 (s : State) (r : Reg) (v : Word) : (s.store r v).mat0 = s.mat0 := by cases r <;> rfl
@[simp] theorem State.store_fault (s : State) (r : Reg) (v : Word) : (s.store r v).fault = s.fault := by cases r <;> rfl
@[simp] theorem State.store_pc (s : State) (r : Reg) (v : Word) : (s.store r v).pc = s.pc := by cases r <;> rfl
@[simp] theorem State.store_program (s : State) (r : Reg) (v : Word) : (s.store r v).program = s.program := by cases r <;> rfl
@[simp] theorem State.store_readData (s : State) (r : Reg) (v : Word) : (s.store r v).readData = s.readData := by cases r <;> rfl
@[simp] theorem State.store_trace (s : State) (r : Reg) (v : Word) : (s.store r v).trace = s.trace := by cases r <;> rfl
@[simp] theorem State.store_ticksDue (s : State) (r : Reg) (v : Word) : (s.store r v).ticksDue = s.ticksDue := by cases r <;> rfl
@[simp] theorem State.store_turn (s : State) (r : Reg) (v : Word) : (s.store r v).turn = s.turn := by cases r <;> rfl

@[simp] theorem State.writeReg_cfg (s : State) (r : Reg) (d : Word) : (s.writeReg r d).cfg = s.cfg := by cases r <;> rfl
@[simp] theorem State.writeReg_mat0 (s : State) (r : Reg) (d : Word) : (s.writeReg r d).mat0 = s.mat0 := by cases r <;> rfl
@[simp] theorem State.writeReg_fault (s : State) (r : Reg) (d : Word) : (s.writeReg r d).fault = s.fault := by cases r <;> rfl
@[simp] theorem State.writeReg_pc (s : State) (r : Reg) (d : Word) : (s.writeReg r d).pc = s.pc := by cases r <;> rfl
@[simp] theorem State.writeReg_program (s : State) (r : Reg) (d : Word) : (s.writeReg r d).program = s.program := by cases r <;> rfl
@[simp] theorem State.writeReg_readData (s : State) (r : Reg) (d : Word) : (s.writeReg r d).readData = s.readData := by cases r <;> rfl
@[simp] theorem State.writeReg_trace (s : State) (r : Reg) (d : Word) : (s.writeReg r d).trace = s.trace := by cases r <;> rfl
@[simp] theorem State.writeReg_ticksDue (s : State) (r : Reg) (d : Word) : (s.writeReg r d).ticksDue = s.ticksDue := by cases r <;> rfl
@[simp] theorem State.writeReg_turn (s : State) (r : Reg) (d : Word) : (s.writeReg r d).turn = s.turn := by cases r <;> rfl

/-- A store into one register leaves every other one alone. -/
theorem State.stored_store (s : State) (r r' : Reg) (v : Word) :
    (s.store r v).stored r' = if r' = r then v else s.stored r' := by
  cases r <;> cases r' <;> rfl

/-- A bus write of one register leaves every other one alone. -/
theorem State.stored_writeReg (s : State) (r r' : Reg) (d : Word) :
    (s.writeReg r d).stored r' = if r' = r then d &&& wmask s.cfg r else s.stored r' :=
  State.stored_store s r r' _

/-- A read after a bus write gives the data written, masked. -/
theorem State.readReg_writeReg_self (s : State) (r : Reg) (d : Word) :
    (s.writeReg r d).readReg r = d &&& wmask s.cfg r := by
  simp [State.readReg, State.stored_writeReg, BitVec.and_assoc]

@[simp] theorem State.retire_stored (s : State) (r : Reg) : (s.retire).stored r = s.stored r := by cases r <;> rfl
@[simp] theorem State.retire_readReg (s : State) (r : Reg) : (s.retire).readReg r = s.readReg r := by cases r <;> rfl
@[simp] theorem State.retire_pwmPin (s : State) : (s.retire).pwmPin = s.pwmPin := rfl
@[simp] theorem State.retire_tickEnabled (s : State) : (s.retire).tickEnabled = s.tickEnabled := rfl
@[simp] theorem State.retire_gateOK (s : State) (r : Reg) : (s.retire).gateOK r = s.gateOK r := by cases r <;> rfl
@[simp] theorem State.retireTo_stored (s : State) (ls : List Line) (r : Reg) : (s.retireTo ls).stored r = s.stored r := by cases r <;> rfl
@[simp] theorem State.retireTo_readReg (s : State) (ls : List Line) (r : Reg) : (s.retireTo ls).readReg r = s.readReg r := by cases r <;> rfl
@[simp] theorem State.retireTo_pwmPin (s : State) (ls : List Line) : (s.retireTo ls).pwmPin = s.pwmPin := rfl
@[simp] theorem State.retireTo_tickEnabled (s : State) (ls : List Line) : (s.retireTo ls).tickEnabled = s.tickEnabled := rfl
@[simp] theorem State.retireTo_gateOK (s : State) (ls : List Line) (r : Reg) : (s.retireTo ls).gateOK r = s.gateOK r := by cases r <;> rfl
@[simp] theorem State.returned_stored (s : State) (v : Word) (r : Reg) : (s.returned v).stored r = s.stored r := by cases r <;> rfl
@[simp] theorem State.returned_readReg (s : State) (v : Word) (r : Reg) : (s.returned v).readReg r = s.readReg r := by cases r <;> rfl
@[simp] theorem State.returned_pwmPin (s : State) (v : Word) : (s.returned v).pwmPin = s.pwmPin := rfl
@[simp] theorem State.returned_tickEnabled (s : State) (v : Word) : (s.returned v).tickEnabled = s.tickEnabled := rfl
@[simp] theorem State.returned_gateOK (s : State) (v : Word) (r : Reg) : (s.returned v).gateOK r = s.gateOK r := by cases r <;> rfl
@[simp] theorem State.rearm_stored (s : State) (r : Reg) : (s.rearm).stored r = s.stored r := by cases r <;> rfl
@[simp] theorem State.rearm_readReg (s : State) (r : Reg) : (s.rearm).readReg r = s.readReg r := by cases r <;> rfl
@[simp] theorem State.rearm_pwmPin (s : State) : (s.rearm).pwmPin = s.pwmPin := rfl
@[simp] theorem State.rearm_tickEnabled (s : State) : (s.rearm).tickEnabled = s.tickEnabled := rfl
@[simp] theorem State.rearm_gateOK (s : State) (r : Reg) : (s.rearm).gateOK r = s.gateOK r := by cases r <;> rfl
@[simp] theorem State.tickTaken_stored (s : State) (r : Reg) : (s.tickTaken).stored r = s.stored r := by cases r <;> rfl
@[simp] theorem State.tickTaken_readReg (s : State) (r : Reg) : (s.tickTaken).readReg r = s.readReg r := by cases r <;> rfl
@[simp] theorem State.tickTaken_pwmPin (s : State) : (s.tickTaken).pwmPin = s.pwmPin := rfl
@[simp] theorem State.tickTaken_tickEnabled (s : State) : (s.tickTaken).tickEnabled = s.tickEnabled := rfl
@[simp] theorem State.tickTaken_gateOK (s : State) (r : Reg) : (s.tickTaken).gateOK r = s.gateOK r := by cases r <;> rfl
@[simp] theorem State.faulted_stored (s : State) (f : Fault) (r : Reg) : (s.faulted f).stored r = s.stored r := by cases r <;> rfl
@[simp] theorem State.faulted_readReg (s : State) (f : Fault) (r : Reg) : (s.faulted f).readReg r = s.readReg r := by cases r <;> rfl
@[simp] theorem State.faulted_gateOK (s : State) (f : Fault) (r : Reg) : (s.faulted f).gateOK r = s.gateOK r := by cases r <;> rfl
@[simp] theorem State.skipLine_stored (s : State) (r : Reg) : (s.skipLine).stored r = s.stored r := by cases r <;> rfl
@[simp] theorem State.skipLine_readReg (s : State) (r : Reg) : (s.skipLine).readReg r = s.readReg r := by cases r <;> rfl
@[simp] theorem State.skipLine_gateOK (s : State) (r : Reg) : (s.skipLine).gateOK r = s.gateOK r := by cases r <;> rfl
@[simp] theorem State.ticked_tickEnabled (s : State) : s.ticked.tickEnabled = s.tickEnabled := rfl

/-- A tick leaves every register but TC alone. -/
theorem State.ticked_stored (s : State) (r : Reg) :
    s.ticked.stored r = if r = .tc then s.nextCount s.tc else s.stored r := by
  cases r <;> rfl

end Sys2Proof.Machine
end

