-- ==== Sys2Proof/Laws/Ops.lean ====
section
/-! SUPPORT. For each shared operation, once, everything it can do. -/

namespace Sys2Proof.Machine

open Host (Outcome)

/-- Two next outcomes are equal exactly where their states are, with the known state on the right. -/
theorem next_eq {a t : State} : (Outcome.next a : Outcome State Fault Refusal) = .next t ↔ t = a := by
  constructor
  · intro h; cases h; rfl
  · rintro rfl; rfl

/-- A faulted state enables nothing. -/
theorem whenLive_faulted {s : State} {f : Fault} (h : s.fault = some f) (k : Outcome State Fault Refusal) :
    whenLive s k = .fault f := by simp [whenLive, h]

/-- With FAULT empty the operation runs. -/
theorem whenLive_live {s : State} (h : s.fault = none) (k : Outcome State Fault Refusal) : whenLive s k = k := by
  simp [whenLive, h]

theorem whenLive_next {s t : State} {k : Outcome State Fault Refusal} :
    whenLive s k = .next t ↔ s.fault = none ∧ k = .next t := by
  cases h : s.fault <;> simp [whenLive, h]

theorem raise_next {f : Fault} {s t : State} : raise f s = .next t ↔ t = s.faulted f := by
  simp only [raise, next_eq]

/-- A live transaction whose group is clocked does what its own part says. -/
theorem access_clocked {r : Reg} {w : Txn} {s : State} {k : Outcome State Fault Refusal} (h : s.fault = none)
    (g : s.gateOK r = true) : access r w s k = k := by simp [access, whenLive_live h, g]

/-- A live transaction whose group is not clocked raises F_UNCLOCKED. -/
theorem access_unclocked {r : Reg} {w : Txn} {s : State} {k : Outcome State Fault Refusal} (h : s.fault = none)
    (g : s.gateOK r = false) : access r w s k = .next (s.faulted (.unclocked w s.pc)) := by
  simp [access, whenLive_live h, g, raise]

theorem access_faulted {r : Reg} {w : Txn} {s : State} {f : Fault} (h : s.fault = some f)
    (k : Outcome State Fault Refusal) : access r w s k = .fault f := whenLive_faulted h _

/-- What a transaction that answers a next state did. -/
theorem access_next {r : Reg} {w : Txn} {s t : State} {k : Outcome State Fault Refusal} :
    access r w s k = .next t ↔ s.fault = none ∧
      ((s.gateOK r = true ∧ k = .next t) ∨
       (s.gateOK r = false ∧ t = s.faulted (.unclocked w s.pc))) := by
  unfold access
  rw [whenLive_next]
  cases g : s.gateOK r <;> simp [raise_next]

theorem busRead_next {r : Reg} {x : Word} {s t : State} :
    busRead r x s = .next t ↔ s.fault = none ∧
      ((s.gateOK r = true ∧ t = (s.returned (s.readReg r)).retire) ∨
       (s.gateOK r = false ∧ t = s.faulted (.unclocked (rdWord r x) s.pc))) := by
  simp only [busRead, access_next, next_eq]

theorem busWrite_next {r : Reg} {d : Word} {s t : State} :
    busWrite r d s = .next t ↔ s.fault = none ∧
      ((s.gateOK r = true ∧ t = (s.writeReg r d).retire) ∨
       (s.gateOK r = false ∧ t = s.faulted (.unclocked (wrWord r d) s.pc))) := by
  simp only [busWrite, access_next, next_eq]

theorem orwThen_next {r : Reg} {m : Word} {ls : List Line} {s t : State} :
    orwThen r m ls s = .next t ↔ s.fault = none ∧
      ((s.gateOK r = true ∧
        t = (s.returned (s.readReg r)).retireTo (.txn (wrWord r (s.readReg r ||| m)) :: ls)) ∨
       (s.gateOK r = false ∧ t = s.faulted (.unclocked (rdWord r 0#32) s.pc))) := by
  simp only [orwThen, access_next, next_eq]

theorem execWrClkctrl_next {d : Word} {s t : State} :
    execWrClkctrl d s = .next t ↔ s.fault = none ∧
      ((clearedGates s.clkctrl d = 0#32 ∧ t = (s.writeReg .clkctrl d).retire) ∨
       (clearedGates s.clkctrl d ≠ 0#32 ∧
        t = s.faulted (.gateCleared (wrWord .clkctrl d) s.pc))) := by
  unfold execWrClkctrl
  rw [access_next]
  by_cases h : clearedGates s.clkctrl d = 0#32 <;> simp [State.gateOK, h, raise_next, -Host.Outcome.next.injEq, next_eq]

theorem execWrTcr_next {d : Word} {s t : State} :
    execWrTcr d s = .next t ↔ s.fault = none ∧
      ((s.gateTimer = true ∧ ¬(d[0] = true ∧ s.mr3 = 0#32) ∧ t = (s.writeReg .tcr d).retire) ∨
       (s.gateTimer = true ∧ (d[0] = true ∧ s.mr3 = 0#32) ∧
        t = s.faulted (.zeroPeriod (wrWord .tcr d) s.pc)) ∨
       (s.gateTimer = false ∧ t = s.faulted (.unclocked (wrWord .tcr d) s.pc))) := by
  unfold execWrTcr
  rw [access_next]
  by_cases h : d[0] = true ∧ s.mr3 = 0#32 <;> cases g : s.gateTimer <;>
    simp [State.gateOK, State.tmrGateOK, h, g, raise_next, -Host.Outcome.next.injEq, next_eq]

theorem execSetDuty_next {p : Int} {s t : State} :
    execSetDuty p s = .next t ↔ s.fault = none ∧
      ((dutyOperand s.cfg.dutyPolicy p = none ∧ t = s.faulted (.dutyRange p s.pc)) ∨
       ∃ v, dutyOperand s.cfg.dutyPolicy p = some v ∧ busWrite .mr0 v s = .next t) := by
  unfold execSetDuty
  rw [whenLive_next]
  cases dutyOperand s.cfg.dutyPolicy p <;> simp [raise_next, execWrMr0]

theorem execDelay_next {s t : State} :
    execDelay s = .next t ↔ s.fault = none ∧ t = s.skipLine := by
  simp only [execDelay, whenLive_next, next_eq]

theorem execTick_next {s t : State} :
    execTick s = .next t ↔ s.tickEnabled = true ∧
      ((s.mr3 = 0#32 ∧ t = s.faulted (.zeroPeriodTick s.tc)) ∨ (s.mr3 ≠ 0#32 ∧ t = s.ticked)) := by
  unfold execTick
  rw [whenLive_next]
  have hf : s.tickEnabled = true → s.fault = none := by simp [State.tickEnabled]
  by_cases e : s.tickEnabled = true <;> by_cases m : s.mr3 = 0#32 <;> simp [e, m, raise_next, -Host.Outcome.next.injEq, next_eq, hf]

/-- A settled outcome that is a next state came from one: updated if it holds no fault, as it was if it does. -/
theorem settle_next {f : State → State} {o : Outcome State Fault Refusal} {t : State} :
    settle f o = .next t ↔ ∃ u, o = .next u ∧ ((u.fault = none ∧ t = f u) ∨ (u.fault ≠ none ∧ t = u)) := by
  cases o with
  | next u => cases h : u.fault <;> simp [settle, h, -Host.Outcome.next.injEq, next_eq]
  | fault r => simp [settle]
  | refused r => simp [settle]

/-- What a bus master's step that answers a next state did. -/
theorem busStep_next {s t : State} : busStep s = .next t ↔ ∃ l ls, s.program = l :: ls ∧
    ((∃ i, decodeLine l = .ok i ∧ settle State.rearm (exec i s) = .next t) ∨
     (∃ w e, decodeLine l = .error (w, e) ∧ s.fault = none ∧ t = s.faulted (.unmapped w s.pc))) := by
  unfold busStep
  cases hp : s.program with
  | nil => simp
  | cons l ls =>
    cases hd : decodeLine l with
    | ok i => simp [hd]
    | error we => obtain ⟨w, e⟩ := we; simp [hd, whenLive_next, raise_next]

/-- What a step that answers a next state did. -/
theorem step_next {s t : State} : step s = .next t ↔ s.fault = none ∧
    ((s.ticksNext = true ∧ tickStep s = .next t) ∨ (s.ticksNext = false ∧ busStep s = .next t)) := by
  unfold step stepOf
  rw [whenLive_next]
  cases s.ticksNext <;> simp

end Sys2Proof.Machine
end

