-- ==== Sys2Proof/Laws/Exec.lean ====
section
/-! SUPPORT. Everything an operation, and a step of the machine, can do when it answers a next state. -/

namespace Sys2Proof.Machine

open Host (Outcome)

theorem exec_rd (r : Reg) (x : Word) (s : State) : exec (.rd r x) s = busRead r x s := by cases r <;> rfl

theorem exec_wr {r : Reg} (d : Word) (s : State) (h1 : r ≠ .clkctrl) (h2 : r ≠ .tcr) :
    exec (.wr r d) s = busWrite r d s := by cases r <;> first | rfl | contradiction

theorem rd_ne_tick (r : Reg) (x : Word) : Instr.rd r x ≠ .tick := by cases r <;> simp [Instr.rd]
theorem wr_ne_tick (r : Reg) (d : Word) : Instr.wr r d ≠ .tick := by cases r <;> simp [Instr.wr]

/-- What an operation `i` did that took `s` to `t`. -/
inductive Effect (i : Instr) (s t : State) : Prop where
  /-- It raised a fault; a TICK raises one kind only, where MR3 = 0. -/
  | faulted (f : Fault) (ht : t = s.faulted f) (htick : i = .tick → s.mr3 = 0#32 ∧ f = .zeroPeriodTick s.tc)
  /-- It was a read of a clocked register. -/
  | read (r : Reg) (x : Word) (hi : i = .rd r x) (hg : s.gateOK r = true)
      (ht : t = (s.returned (s.readReg r)).retire)
  /-- It was a write of a clocked register that passed its own check. -/
  | write (r : Reg) (d : Word) (hi : i = .wr r d) (hg : s.gateOK r = true) (ht : t = (s.writeReg r d).retire)
      (hclk : r = .clkctrl → clearedGates s.clkctrl d = 0#32) (htcr : r = .tcr → ¬ (d[0] = true ∧ s.mr3 = 0#32))
  /-- It was a SET_DUTY that wrote MR0. -/
  | duty (p : Int) (v : Word) (hi : i = .setDuty p) (hv : dutyOperand s.cfg.dutyPolicy p = some v)
      (hg : s.gateTimer = true) (ht : t = (s.writeReg .mr0 v).retire)
  /-- It was a macro that begins with the read of an ORW. -/
  | orw (r : Reg) (m : Word) (ls : List Line) (hg : s.gateOK r = true)
      (hi : (i = .orw r m ∧ ls = []) ∨
        (i = .configurePins ∧ r = .clkctrl ∧ m = 0x00010040#32 ∧ ls = configurePinsRest s.cfg) ∨
        (i = .initPwm ∧ r = .clkctrl ∧ m = 0x00000080#32 ∧ ls = initPwmRest s.cfg))
      (ht : t = (s.returned (s.readReg r)).retireTo (.txn (wrWord r (s.readReg r ||| m)) :: ls))
  /-- It was a DELAY. -/
  | delay (hi : i = .delay) (ht : t = s.skipLine)
  /-- It was a TICK. -/
  | tick (hi : i = .tick) (he : s.tickEnabled = true) (hp : s.mr3 ≠ 0#32) (ht : t = s.ticked)

theorem effect_of_busRead {r : Reg} {x : Word} {s t : State} (h : busRead r x s = .next t) :
    s.fault = none ∧ Effect (.rd r x) s t := by
  obtain ⟨h0, ⟨g, e⟩ | ⟨_, e⟩⟩ := busRead_next.1 h
  · exact ⟨h0, .read r x rfl g e⟩
  · exact ⟨h0, .faulted _ e fun c => absurd c (rd_ne_tick r x)⟩

theorem effect_of_busWrite {r : Reg} {d : Word} {s t : State} (h1 : r ≠ .clkctrl) (h2 : r ≠ .tcr)
    (h : busWrite r d s = .next t) : s.fault = none ∧ Effect (.wr r d) s t := by
  obtain ⟨h0, ⟨g, e⟩ | ⟨_, e⟩⟩ := busWrite_next.1 h
  · exact ⟨h0, .write r d rfl g e (fun c => absurd c h1) (fun c => absurd c h2)⟩
  · exact ⟨h0, .faulted _ e fun c => absurd c (wr_ne_tick r d)⟩

/-- Every operation that answers a next state ran from a state with FAULT empty and had one of the effects above. -/
theorem exec_effect {i : Instr} {s t : State} (h : exec i s = .next t) : s.fault = none ∧ Effect i s t := by
  cases i with
  | rdClkctrl x => exact effect_of_busRead (r := .clkctrl) h
  | rdPinOd x => exact effect_of_busRead (r := .pinOd) h
  | rdPinDbg0 x => exact effect_of_busRead (r := .pinDbg0) h
  | rdPinDbg1 x => exact effect_of_busRead (r := .pinDbg1) h
  | rdPinPwm x => exact effect_of_busRead (r := .pinPwm) h
  | rdTcr x => exact effect_of_busRead (r := .tcr) h
  | rdTc x => exact effect_of_busRead (r := .tc) h
  | rdMcr x => exact effect_of_busRead (r := .mcr) h
  | rdMr0 x => exact effect_of_busRead (r := .mr0) h
  | rdMr3 x => exact effect_of_busRead (r := .mr3) h
  | rdPwmc x => exact effect_of_busRead (r := .pwmc) h
  | wrPinOd d => exact effect_of_busWrite (r := .pinOd) (by decide) (by decide) h
  | wrPinDbg0 d => exact effect_of_busWrite (r := .pinDbg0) (by decide) (by decide) h
  | wrPinDbg1 d => exact effect_of_busWrite (r := .pinDbg1) (by decide) (by decide) h
  | wrPinPwm d => exact effect_of_busWrite (r := .pinPwm) (by decide) (by decide) h
  | wrTc d => exact effect_of_busWrite (r := .tc) (by decide) (by decide) h
  | wrMcr d => exact effect_of_busWrite (r := .mcr) (by decide) (by decide) h
  | wrMr0 d => exact effect_of_busWrite (r := .mr0) (by decide) (by decide) h
  | wrMr3 d => exact effect_of_busWrite (r := .mr3) (by decide) (by decide) h
  | wrPwmc d => exact effect_of_busWrite (r := .pwmc) (by decide) (by decide) h
  | wrClkctrl d =>
    obtain ⟨h0, ⟨g, e⟩ | ⟨_, e⟩⟩ := execWrClkctrl_next.1 h
    · exact ⟨h0, .write .clkctrl d rfl rfl e (fun _ => g) (by simp)⟩
    · exact ⟨h0, .faulted _ e (by simp)⟩
  | wrTcr d =>
    obtain ⟨h0, ⟨g, c, e⟩ | ⟨_, _, e⟩ | ⟨_, e⟩⟩ := execWrTcr_next.1 h
    · exact ⟨h0, .write .tcr d rfl g e (by simp) (fun _ => c)⟩
    · exact ⟨h0, .faulted _ e (by simp)⟩
    · exact ⟨h0, .faulted _ e (by simp)⟩
  | orw r m =>
    obtain ⟨h0, ⟨g, e⟩ | ⟨_, e⟩⟩ := orwThen_next.1 (show orwThen r m [] s = .next t from h)
    · exact ⟨h0, .orw r m [] g (.inl ⟨rfl, rfl⟩) e⟩
    · exact ⟨h0, .faulted _ e (by simp)⟩
  | configurePins =>
    obtain ⟨h0, ⟨g, e⟩ | ⟨_, e⟩⟩ := orwThen_next.1 (show orwThen _ _ _ s = .next t from h)
    · exact ⟨h0, .orw _ _ _ g (.inr (.inl ⟨rfl, rfl, rfl, rfl⟩)) e⟩
    · exact ⟨h0, .faulted _ e (by simp)⟩
  | initPwm =>
    obtain ⟨h0, ⟨g, e⟩ | ⟨_, e⟩⟩ := orwThen_next.1 (show orwThen _ _ _ s = .next t from h)
    · exact ⟨h0, .orw _ _ _ g (.inr (.inr ⟨rfl, rfl, rfl, rfl⟩)) e⟩
    · exact ⟨h0, .faulted _ e (by simp)⟩
  | setDuty p =>
    obtain ⟨h0, ⟨_, e⟩ | ⟨v, hv, e⟩⟩ := execSetDuty_next.1 h
    · exact ⟨h0, .faulted _ e (by simp)⟩
    · obtain ⟨_, ⟨g, e⟩ | ⟨_, e⟩⟩ := busWrite_next.1 e
      · exact ⟨h0, .duty p v rfl hv g e⟩
      · exact ⟨h0, .faulted _ e (by simp)⟩
  | delay =>
    obtain ⟨h0, e⟩ := execDelay_next.1 h
    exact ⟨h0, .delay rfl e⟩
  | tick =>
    obtain ⟨g, ⟨m, e⟩ | ⟨m, e⟩⟩ := execTick_next.1 h
    · exact ⟨by simp_all [State.tickEnabled], .faulted _ e fun _ => ⟨m, rfl⟩⟩
    · exact ⟨by simp_all [State.tickEnabled], .tick rfl g m e⟩

/-- An operation with an effect either raised a fault, which is its whole effect, or left FAULT empty. -/
theorem Effect.fault_or_live {i : Instr} {s t : State} (h0 : s.fault = none) (h : Effect i s t) :
    (∃ f, t = s.faulted f) ∨ t.fault = none := by
  cases h with
  | faulted f ht => exact .inl ⟨f, ht⟩
  | _ => subst_vars; exact .inr (by simp [h0])

/-- A bus master's step either raised a fault, which is its whole effect, or ran an operation that left FAULT empty and
armed the next turn. -/
theorem busStep_effect {s t : State} (h : busStep s = .next t) : s.fault = none ∧
    ((∃ f, t = s.faulted f) ∨
     ∃ l ls i u, s.program = l :: ls ∧ decodeLine l = .ok i ∧ exec i s = .next u ∧ u.fault = none ∧ t = u.rearm) := by
  obtain ⟨l, ls, hp, ⟨i, hd, hs⟩ | ⟨w, e, hd, hf, rfl⟩⟩ := busStep_next.1 h
  · obtain ⟨u, hu, ⟨hn, rfl⟩ | ⟨hn, rfl⟩⟩ := settle_next.1 hs
    · exact ⟨(exec_effect hu).1, .inr ⟨l, ls, i, u, hp, hd, hu, hn, rfl⟩⟩
    · obtain ⟨h0, e⟩ := exec_effect hu
      exact ⟨h0, .inl ((e.fault_or_live h0).resolve_right hn)⟩
  · exact ⟨hf, .inl ⟨_, rfl⟩⟩

/-- A step either raised a fault, or was the bus master's, or was a TICK. -/
theorem step_effect {s t : State} (h : step s = .next t) : s.fault = none ∧
    ((∃ f, t = s.faulted f) ∨
     (∃ l ls i u, s.ticksNext = false ∧ s.program = l :: ls ∧ decodeLine l = .ok i ∧ exec i s = .next u ∧
        u.fault = none ∧ t = u.rearm) ∨
     (s.ticksNext = true ∧ s.mr3 ≠ 0#32 ∧ t = s.ticked.tickTaken)) := by
  obtain ⟨h0, ⟨ht, h⟩ | ⟨ht, h⟩⟩ := step_next.1 h
  · obtain ⟨u, hu, hh⟩ := settle_next.1 h
    obtain ⟨_, ⟨_, e⟩ | ⟨m, e⟩⟩ := execTick_next.1 (show execTick s = .next u from hu)
    · subst e
      simp at hh
      exact ⟨h0, .inl ⟨_, hh⟩⟩
    · subst e
      simp [h0] at hh
      exact ⟨h0, .inr (.inr ⟨ht, m, hh⟩)⟩
  · obtain ⟨_, ⟨f, e⟩ | ⟨l, ls, i, u, h⟩⟩ := busStep_effect h
    · exact ⟨h0, .inl ⟨f, e⟩⟩
    · exact ⟨h0, .inr (.inl ⟨l, ls, i, u, ht, h⟩)⟩

/-- Iterating `k + 1` times is one step and `k` more. -/
theorem iter_succ {f : State → Outcome State Fault Refusal} {k : Nat} {s t : State} :
    iter f (k + 1) s = .next t ↔ ∃ u, f s = .next u ∧ iter f k u = .next t := by
  rw [iter]
  cases f s <;> simp

/-- A run of `k + 1` steps is one step and a run of `k`. -/
theorem runs_succ {k : Nat} {s t : State} : Runs (k + 1) s t ↔ ∃ u, step s = .next u ∧ Runs k u t := iter_succ

theorem runs_zero {s t : State} : Runs 0 s t ↔ t = s := next_eq

end Sys2Proof.Machine
end

