-- ==== Sys2Proof/Laws/PerInstr.lean ====
section
/-! SUPPORT. Lemmas stated once per constructor of Instr. -/

namespace Sys2Proof.Laws

/-- The `match` of each row of spec/opcode_table.json under its mask 0xFFFF00000000; a macro and TICK have none. -/
def tableMatch : Instr → List Txn
  | .rdClkctrl _ => [0x008000000000#48]
  | .wrClkctrl _ => [0x808000000000#48]
  | .rdPinOd _ => [0x100000000000#48]
  | .wrPinOd _ => [0x900000000000#48]
  | .rdPinDbg0 _ => [0x100400000000#48]
  | .wrPinDbg0 _ => [0x900400000000#48]
  | .rdPinDbg1 _ => [0x100800000000#48]
  | .wrPinDbg1 _ => [0x900800000000#48]
  | .rdPinPwm _ => [0x100C00000000#48]
  | .wrPinPwm _ => [0x900C00000000#48]
  | .rdTcr _ => [0x200400000000#48]
  | .wrTcr _ => [0xA00400000000#48]
  | .rdTc _ => [0x200800000000#48]
  | .wrTc _ => [0xA00800000000#48]
  | .rdMcr _ => [0x201400000000#48]
  | .wrMcr _ => [0xA01400000000#48]
  | .rdMr0 _ => [0x201800000000#48]
  | .wrMr0 _ => [0xA01800000000#48]
  | .rdMr3 _ => [0x202400000000#48]
  | .wrMr3 _ => [0xA02400000000#48]
  | .rdPwmc _ => [0x207400000000#48]
  | .wrPwmc _ => [0xA07400000000#48]
  | .orw _ _ => []
  | .configurePins => []
  | .initPwm => []
  | .setDuty _ => []
  | .delay => []
  | .tick => []

/-- The encoder's word of an instruction lies in its row of spec/opcode_table.json. -/
def TableMatch.Statement (i : Instr) : Prop := (encode i).map (· &&& 0xFFFF00000000#48) = tableMatch i

/-- Under the row mask a transaction word is its header with DATA 0. -/
theorem TableMatch.txnWord_masked (write : Bool) (r : Reg) (d : Word) :
    txnWord write r d &&& 0xFFFF00000000#48 = header write r ++ 0#32 := by
  apply BitVec.eq_of_getLsbD_eq
  intro i hi
  rw [BitVec.getLsbD_and, txnWord_getLsbD]
  have h : (header write r ++ 0#32 : BitVec (16 + 32)).getLsbD i = if i < 32 then false else (header write r).getLsbD (i - 32) := by
    rw [BitVec.getLsbD_append]; simp
  refine Eq.trans ?_ h.symm
  have m : (0xFFFF00000000#48).getLsbD i = decide (32 ≤ i) := by
    have : ∀ j : Fin 48, (0xFFFF00000000#48).getLsbD j.val = decide (32 ≤ j.val) := by decide
    exact this ⟨i, hi⟩
  rw [m]
  by_cases h1 : i < 32
  · simp [h1]
  · simp [h1, Nat.le_of_not_lt h1]

theorem TableMatch.rdClkctrl (x : Word) : TableMatch.Statement (.rdClkctrl x) := by
  simp only [TableMatch.Statement, encode, rdWord, List.map, TableMatch.txnWord_masked, tableMatch]; rfl
theorem TableMatch.wrClkctrl (d : Word) : TableMatch.Statement (.wrClkctrl d) := by
  simp only [TableMatch.Statement, encode, wrWord, List.map, TableMatch.txnWord_masked, tableMatch]; rfl
theorem TableMatch.rdPinOd (x : Word) : TableMatch.Statement (.rdPinOd x) := by
  simp only [TableMatch.Statement, encode, rdWord, List.map, TableMatch.txnWord_masked, tableMatch]; rfl
theorem TableMatch.wrPinOd (d : Word) : TableMatch.Statement (.wrPinOd d) := by
  simp only [TableMatch.Statement, encode, wrWord, List.map, TableMatch.txnWord_masked, tableMatch]; rfl
theorem TableMatch.rdPinDbg0 (x : Word) : TableMatch.Statement (.rdPinDbg0 x) := by
  simp only [TableMatch.Statement, encode, rdWord, List.map, TableMatch.txnWord_masked, tableMatch]; rfl
theorem TableMatch.wrPinDbg0 (d : Word) : TableMatch.Statement (.wrPinDbg0 d) := by
  simp only [TableMatch.Statement, encode, wrWord, List.map, TableMatch.txnWord_masked, tableMatch]; rfl
theorem TableMatch.rdPinDbg1 (x : Word) : TableMatch.Statement (.rdPinDbg1 x) := by
  simp only [TableMatch.Statement, encode, rdWord, List.map, TableMatch.txnWord_masked, tableMatch]; rfl
theorem TableMatch.wrPinDbg1 (d : Word) : TableMatch.Statement (.wrPinDbg1 d) := by
  simp only [TableMatch.Statement, encode, wrWord, List.map, TableMatch.txnWord_masked, tableMatch]; rfl
theorem TableMatch.rdPinPwm (x : Word) : TableMatch.Statement (.rdPinPwm x) := by
  simp only [TableMatch.Statement, encode, rdWord, List.map, TableMatch.txnWord_masked, tableMatch]; rfl
theorem TableMatch.wrPinPwm (d : Word) : TableMatch.Statement (.wrPinPwm d) := by
  simp only [TableMatch.Statement, encode, wrWord, List.map, TableMatch.txnWord_masked, tableMatch]; rfl
theorem TableMatch.rdTcr (x : Word) : TableMatch.Statement (.rdTcr x) := by
  simp only [TableMatch.Statement, encode, rdWord, List.map, TableMatch.txnWord_masked, tableMatch]; rfl
theorem TableMatch.wrTcr (d : Word) : TableMatch.Statement (.wrTcr d) := by
  simp only [TableMatch.Statement, encode, wrWord, List.map, TableMatch.txnWord_masked, tableMatch]; rfl
theorem TableMatch.rdTc (x : Word) : TableMatch.Statement (.rdTc x) := by
  simp only [TableMatch.Statement, encode, rdWord, List.map, TableMatch.txnWord_masked, tableMatch]; rfl
theorem TableMatch.wrTc (d : Word) : TableMatch.Statement (.wrTc d) := by
  simp only [TableMatch.Statement, encode, wrWord, List.map, TableMatch.txnWord_masked, tableMatch]; rfl
theorem TableMatch.rdMcr (x : Word) : TableMatch.Statement (.rdMcr x) := by
  simp only [TableMatch.Statement, encode, rdWord, List.map, TableMatch.txnWord_masked, tableMatch]; rfl
theorem TableMatch.wrMcr (d : Word) : TableMatch.Statement (.wrMcr d) := by
  simp only [TableMatch.Statement, encode, wrWord, List.map, TableMatch.txnWord_masked, tableMatch]; rfl
theorem TableMatch.rdMr0 (x : Word) : TableMatch.Statement (.rdMr0 x) := by
  simp only [TableMatch.Statement, encode, rdWord, List.map, TableMatch.txnWord_masked, tableMatch]; rfl
theorem TableMatch.wrMr0 (d : Word) : TableMatch.Statement (.wrMr0 d) := by
  simp only [TableMatch.Statement, encode, wrWord, List.map, TableMatch.txnWord_masked, tableMatch]; rfl
theorem TableMatch.rdMr3 (x : Word) : TableMatch.Statement (.rdMr3 x) := by
  simp only [TableMatch.Statement, encode, rdWord, List.map, TableMatch.txnWord_masked, tableMatch]; rfl
theorem TableMatch.wrMr3 (d : Word) : TableMatch.Statement (.wrMr3 d) := by
  simp only [TableMatch.Statement, encode, wrWord, List.map, TableMatch.txnWord_masked, tableMatch]; rfl
theorem TableMatch.rdPwmc (x : Word) : TableMatch.Statement (.rdPwmc x) := by
  simp only [TableMatch.Statement, encode, rdWord, List.map, TableMatch.txnWord_masked, tableMatch]; rfl
theorem TableMatch.wrPwmc (d : Word) : TableMatch.Statement (.wrPwmc d) := by
  simp only [TableMatch.Statement, encode, wrWord, List.map, TableMatch.txnWord_masked, tableMatch]; rfl
theorem TableMatch.orw (r : Reg) (m : Word) : TableMatch.Statement (.orw r m) := rfl
theorem TableMatch.configurePins : TableMatch.Statement .configurePins := rfl
theorem TableMatch.initPwm : TableMatch.Statement .initPwm := rfl
theorem TableMatch.setDuty (p : Int) : TableMatch.Statement (.setDuty p) := rfl
theorem TableMatch.delay : TableMatch.Statement .delay := rfl
theorem TableMatch.tick : TableMatch.Statement .tick := rfl

end Sys2Proof.Laws
end

