-- ==== Sys2Proof/Tests/Slice0.lean ====
section
/-! SUPPORT. Tests on fixed values. Expected results are those of spec/95_test_vectors.md (its ids stand beside them) or
are worked out by hand from the rule named. -/

namespace Sys2Proof.Tests

open Sys2Proof.Machine

/-! Ill-formed terms are refused. -/

theorem test_wf_percent_too_large : (Instr.setDuty (2 ^ 31)).wf = false := by decide
theorem test_wf_percent_too_small : (Instr.setDuty (-(2 ^ 31) - 1)).wf = false := by decide
theorem test_wf_percent_bounds :
    ((Instr.setDuty (2 ^ 31 - 1)).wf && (Instr.setDuty (-(2 ^ 31))).wf) = true := by decide

theorem test_config_standard_wf : Config.standard.WF := by decide
theorem test_config_base_not_aligned : ¬ ({ Config.standard with clkBase := 2#32 } : Config).WF := by decide
theorem test_config_windows_overlap : ¬ ({ Config.standard with tmrBase := 0x40001800#32 } : Config).WF := by decide
theorem test_config_gate_set_at_reset : ¬ ({ Config.standard with clkctrlReset := 0x80#32 } : Config).WF := by decide
theorem test_config_pin_reset_reserved : ¬ ({ Config.standard with pinResetPwm := 0x40#32 } : Config).WF := by decide
theorem test_config_period_not_exact : ¬ ({ Config.standard with pwmHz := 29999 } : Config).WF := by decide
theorem test_config_period_too_wide :
    ¬ ({ Config.standard with timerWidth := .w16, pwmHz := 1 } : Config).WF := by decide
theorem test_config_func_zero : ¬ ({ Config.standard with funcPwmMat0 := 0#3 } : Config).WF := by decide
/-- S1. -/
theorem test_period_value : Config.standard.periodValue = 1600 := by decide

/-! Decoding: words written out from the header table of 30_encoding.md R42. -/

theorem test_decode_rdClkctrl : (decode 0x008000000000#48).toOption = some (.rdClkctrl 0#32) := by decide
/-- E2: the DATA of a read is kept only for the fault record. -/
theorem test_decode_rdClkctrl_data : (decode 0x008012345678#48).toOption = some (.rdClkctrl 0x12345678#32) := by decide
/-- E3. -/
theorem test_decode_wrClkctrl : (decode 0x80800001005F#48).toOption = some (.wrClkctrl 0x0001005F#32) := by decide
theorem test_decode_rdPinOd : (decode 0x100000000000#48).toOption = some (.rdPinOd 0#32) := by decide
theorem test_decode_wrPinOd : (decode 0x900000000400#48).toOption = some (.wrPinOd 0x400#32) := by decide
theorem test_decode_rdPinDbg0 : (decode 0x100400000000#48).toOption = some (.rdPinDbg0 0#32) := by decide
theorem test_decode_wrPinDbg0 : (decode 0x900400000001#48).toOption = some (.wrPinDbg0 1#32) := by decide
theorem test_decode_rdPinDbg1 : (decode 0x100800000000#48).toOption = some (.rdPinDbg1 0#32) := by decide
theorem test_decode_wrPinDbg1 : (decode 0x900800000001#48).toOption = some (.wrPinDbg1 1#32) := by decide
theorem test_decode_rdPinPwm : (decode 0x100C00000000#48).toOption = some (.rdPinPwm 0#32) := by decide
/-- E6. -/
theorem test_decode_wrPinPwm : (decode 0x900C00000002#48).toOption = some (.wrPinPwm 2#32) := by decide
theorem test_decode_rdTcr : (decode 0x200400000000#48).toOption = some (.rdTcr 0#32) := by decide
theorem test_decode_wrTcr : (decode 0xA00400000001#48).toOption = some (.wrTcr 1#32) := by decide
theorem test_decode_rdTc : (decode 0x200800000000#48).toOption = some (.rdTc 0#32) := by decide
theorem test_decode_wrTc : (decode 0xA00800012345#48).toOption = some (.wrTc 0x12345#32) := by decide
theorem test_decode_rdMcr : (decode 0x201400000000#48).toOption = some (.rdMcr 0#32) := by decide
theorem test_decode_wrMcr : (decode 0xA01400000400#48).toOption = some (.wrMcr 0x400#32) := by decide
theorem test_decode_rdMr0 : (decode 0x201800000000#48).toOption = some (.rdMr0 0#32) := by decide
/-- E5. -/
theorem test_decode_wrMr0 : (decode 0xA01800000320#48).toOption = some (.wrMr0 800#32) := by decide
theorem test_decode_rdMr3 : (decode 0x202400000000#48).toOption = some (.rdMr3 0#32) := by decide
/-- E4. -/
theorem test_decode_wrMr3 : (decode 0xA02400000640#48).toOption = some (.wrMr3 1600#32) := by decide
theorem test_decode_rdPwmc : (decode 0x207400000000#48).toOption = some (.rdPwmc 0#32) := by decide
theorem test_decode_wrPwmc : (decode 0xA07400000001#48).toOption = some (.wrPwmc 1#32) := by decide
/-- The error a word is rejected with. -/
def errorOf (w : Txn) : Option DecodeError :=
  match decode w with
  | .ok _ => none
  | .error e => some e

/-- E7, E8. -/
theorem test_reject_block : errorOf 0x300000000000#48 = some .reservedBlock ∧
    errorOf 0xF00000000000#48 = some .reservedBlock := by decide
/-- E9. -/
theorem test_reject_misaligned : errorOf 0xA02600000000#48 = some .misalignedOffset := by decide
/-- E10, E11, E12. -/
theorem test_reject_unlisted : errorOf 0x200000000000#48 = some .unlistedOffset ∧
    errorOf 0x000000000000#48 = some .unlistedOffset ∧ errorOf 0x101000000000#48 = some .unlistedOffset := by decide
theorem test_encode_wrMr3 : encode (.wrMr3 1600#32) = [0xA02400000640#48] := by decide
theorem test_decodeTableWord : decodeTableWord 48 0xA02400000640 = some (.wrMr3 1600#32) := by decide
theorem test_fetch_runs_word :
    (match step (State.reset.withFetchWord 48 0x80800001005F) with | .next t => some t.clkctrl | _ => none)
      = some 0x0001005F#32 := by decide

/-! The macros' lines decode to the macros. -/

theorem test_decode_orw : (decodeLine (.orw .pinPwm 2#32)).toOption = some (.orw .pinPwm 2#32) := by decide
theorem test_decode_setDuty : (decodeLine (.setDuty 0xFFFFFFFF#32)).toOption = some (.setDuty (-1)) := by decide
theorem test_decode_others : (decodeLine .configurePins).toOption = some .configurePins ∧
    (decodeLine .initPwm).toOption = some .initPwm ∧ (decodeLine .delay).toOption = some .delay := by decide

/-! The assembler (30_encoding.md R47). -/

theorem test_asm_wr : readLine "WR MR3, 1600  ; period" = some (.wr .mr3 1600#32) := by decide
theorem test_asm_wr_hex : readLine "WR  MCR, 0x400" = some (.wr .mcr 0x400#32) := by decide
theorem test_asm_rd : readLine "RD TC" = some (.rd .tc) := by decide
theorem test_asm_orw : readLine "ORW CLKCTRL, 0x00010040" = some (.orw .clkctrl 0x00010040#32) := by decide
theorem test_asm_setDuty : readLine "SET_DUTY -1" = some (.setDuty 0xFFFFFFFF#32) := by decide
theorem test_asm_macros : readLine "CONFIGURE_PINS" = some .configurePins ∧ readLine "INIT_PWM" = some .initPwm ∧
    readLine "DELAY" = some .delay := by decide
theorem test_asm_unknown : readLine "WR TC" = none ∧ readLine "WR MR3, 0x100000000" = none := by decide

/-! One step of each operation. -/

/-- A state at reset but for CLKCTRL. -/
def clocked (c : Word) : State := { State.reset with clkctrl := c }

/-- The ready state of 95_test_vectors.md (program P2 at pc 16), with timer width `w`. -/
def ready (w : TimerWidth) : State :=
  { State.resetOf { Config.standard with timerWidth := w } with
    clkctrl := 0x000100DF#32, pinOd := 0x400#32, pinDbg0 := 1#32, pinDbg1 := 1#32, pinPwm := 2#32,
    tcr := 1#32, mcr := 0x400#32, mr0 := 1600#32, mr3 := 1600#32, pwmc := 1#32, pc := 16 }

/-- One field of the next state. -/
def after {α : Type} (i : Instr) (s : State) (f : State → α) : Option α :=
  match exec i s with
  | .next t => some (f t)
  | .fault _ => none
  | .refused _ => none

theorem test_rdClkctrl : after (.rdClkctrl 0#32) (clocked 0x0001005F#32) (fun t => (t.readData, t.pc)) =
    some (some 0x0001005F#32, 1) := by decide
/-- CG1, CG5, CG6. -/
theorem test_wrClkctrl : after (.wrClkctrl 0x0001005F#32) (clocked 0x1F#32) (·.clkctrl) = some 0x0001005F#32 ∧
    after (.wrClkctrl 0x000100C0#32) (clocked 0x000100DF#32) (·.clkctrl) = some 0x000100C0#32 := by decide
/-- CG4. -/
theorem test_wrClkctrl_gate_cleared :
    after (.wrClkctrl 0x000000DF#32) (clocked 0x000100DF#32) (fun t => (t.fault, t.clkctrl, t.pc)) =
      some (some (.gateCleared 0x8080000000DF#48 0), 0x000100DF#32, 0) := by decide
/-- CG2, first transaction. -/
theorem test_orw : after (.orw .clkctrl 0x00010040#32) (clocked 0x1F#32) (fun t => (t.readData, t.program, t.pc)) =
    some (some 0x1F#32, [.txn 0x80800001005F#48], 1) := by decide
/-- CG8, CG9. -/
theorem test_pin_gate_needs_both :
    after (.rdPinOd 0#32) (clocked 0x40#32) (·.fault) = some (some (.unclocked 0x100000000000#48 0)) ∧
    after (.wrPinOd 0x400#32) (clocked 0x10000#32) (fun t => (t.fault, t.pinOd)) =
      some (some (.unclocked 0x900000000400#48 0), 0#32) := by decide
/-- PF1. -/
theorem test_pinOd : after (.wrPinOd 0xFFFFFFFF#32) (clocked 0x0001005F#32) (·.pinOd) = some 0x43F#32 ∧
    after (.rdPinOd 5#32) { clocked 0x0001005F#32 with pinOd := 0x400#32 } (·.readData) = some (some 0x400#32) := by
  decide
/-- PF2, PF3. -/
theorem test_pinDbg0 : after (.wrPinDbg0 0x800#32) (clocked 0x0001005F#32) (·.pinDbg0) = some 0#32 ∧
    after (.wrPinDbg0 1#32) { clocked 0x0001005F#32 with pinDbg0 := 0x18#32 } (·.pinDbg0) = some 1#32 := by decide
theorem test_rdPinDbg0 : after (.rdPinDbg0 0#32) (ready .w32) (·.readData) = some (some 1#32) := by decide
/-- PF4. -/
theorem test_pinDbg1 : after (.wrPinDbg1 0x401#32) (clocked 0x0001005F#32) (·.pinDbg1) = some 0x401#32 ∧
    after (.rdPinDbg1 0#32) { ready .w32 with pinDbg0 := 7#32 } (·.readData) = some (some 1#32) := by decide
theorem test_rdPinPwm : after (.rdPinPwm 0#32) (ready .w32) (·.readData) = some (some 2#32) := by decide
/-- PF7. -/
theorem test_wrPinPwm : after (.wrPinPwm 0#32) (ready .w32) (fun t => (t.pinPwm, t.pwmPin)) = some (0#32, none) := by
  decide
/-- P1 pc 0 and what is left to issue, with the words of P1. -/
theorem test_configurePins : after .configurePins { State.reset with program := [.configurePins] }
    (fun t => (t.pc, t.readData, t.program)) = some (1, some 0x1F#32,
      [.txn 0x80800001005F#48, .orw .pinOd 0x400#32, .txn 0x900400000001#48, .txn 0x900800000001#48,
       .orw .pinPwm 2#32]) := by decide
theorem test_rdTcr : after (.rdTcr 0#32) (ready .w32) (·.readData) = some (some 1#32) := by decide
/-- T2, T4. -/
theorem test_wrTcr : after (.wrTcr 1#32) (clocked 0x80#32) (fun t => (t.fault, t.tcr)) =
      some (some (.zeroPeriod 0xA00400000001#48 0), 0#32) ∧
    after (.wrTcr 0xFFFFFFFF#32) { clocked 0x80#32 with mr3 := 1600#32 } (·.tcr) = some 1#32 := by decide
/-- T3, T5. -/
theorem test_wrTcr_even : after (.wrTcr 0xFFFFFFFE#32) (clocked 0x80#32) (fun t => (t.fault, t.tcr)) =
      some (none, 0#32) ∧
    after (.wrTcr 1#32) (clocked 0x1F#32) (·.fault) = some (some (.unclocked 0xA00400000001#48 0)) := by decide
theorem test_rdTc : after (.rdTc 0#32) { ready .w32 with tc := 5#32 } (·.readData) = some (some 5#32) := by decide
/-- E14, E15, T16. -/
theorem test_wrTc : after (.wrTc 0x12345#32) (ready .w16) (fun t => (t.tc, t.mat0)) = some (0x2345#32, false) ∧
    after (.wrTc 0x12345#32) (ready .w32) (·.tc) = some 0x12345#32 := by decide
theorem test_rdMcr : after (.rdMcr 0#32) (ready .w32) (·.readData) = some (some 0x400#32) := by decide
/-- T1. -/
theorem test_wrMcr : after (.wrMcr 0xFFFFFFFF#32) (ready .w32) (·.mcr) = some 0x402#32 := by decide
theorem test_rdMr0 : after (.rdMr0 0#32) { ready .w32 with mr0 := 800#32 } (·.readData) = some (some 800#32) := by
  decide
theorem test_wrMr0 : after (.wrMr0 0xFFFFFFF0#32) (ready .w16) (·.mr0) = some 0xFFF0#32 := by decide
theorem test_rdMr3 : after (.rdMr3 0#32) (ready .w32) (·.readData) = some (some 1600#32) := by decide
/-- T6. -/
theorem test_wrMr3 : after (.wrMr3 0x10000#32) (ready .w16) (·.mr3) = some 0#32 ∧
    after (.wrMr3 0x10000#32) (ready .w32) (·.mr3) = some 0x10000#32 := by decide
theorem test_rdPwmc : after (.rdPwmc 0#32) (ready .w32) (·.readData) = some (some 1#32) := by decide
/-- O3. -/
theorem test_wrPwmc : after (.wrPwmc 0#32) (ready .w32) (fun t => (t.pwmc, t.pwmPin)) = some (0#32, none) := by decide
/-- P2 pc 8 and what is left to issue, with the words of P2. -/
theorem test_initPwm : after .initPwm { clocked 0x0001005F#32 with program := [.initPwm] }
    (fun t => (t.readData, t.program)) = some (some 0x0001005F#32,
      [.txn 0x8080000100DF#48, .txn 0xA02400000640#48, .txn 0xA01800000640#48, .txn 0xA01400000400#48,
       .txn 0xA00800000000#48, .txn 0xA07400000001#48, .txn 0xA00400000001#48]) := by decide
/-- SD3, FT6. -/
theorem test_setDuty : after (.setDuty 50) (ready .w32) (·.mr0) = some 800#32 ∧
    after (.setDuty 101) (ready .w32) (fun t => (t.fault, t.mr0)) = some (some (.dutyRange 101 16), 1600#32) := by
  decide
/-- SD6, SD11, SD12, SD13, SD14: the words of `passthrough` and the values of `clamp`. -/
theorem test_dutyOperand : dutyOperand .passthrough 101 = some 0xFFFFFFF0#32 ∧
    dutyOperand .passthrough (-4000) = some 0x10040#32 ∧ dutyOperand .passthrough 268435556 = some 0#32 ∧
    dutyOperand .passthrough 2147483647 = some 0x650#32 ∧ dutyOperand .passthrough (-2147483648) = some 0x640#32 ∧
    dutyOperand .clamp 101 = some 0#32 ∧ dutyOperand .clamp (-1) = some 0x640#32 := by decide
theorem test_delay : after .delay { ready .w32 with program := [.delay, .initPwm] }
    (fun t => (t.pc, t.program, t.tc)) = some (16, [.initPwm], 0#32) := by decide
/-- T8, T12. -/
theorem test_tick_wraps : after .tick { ready .w32 with tc := 1599#32 } (·.tc) = some 0#32 ∧
    after .tick { ready .w16 with mcr := 0#32, tc := 65535#32 } (·.tc) = some 0#32 := by decide
/-- T14 (with TC 10, FT7), O4: the match wins on the cycle's first tick. -/
theorem test_tick_fault_and_latch :
    after .tick { ready .w32 with mr3 := 0#32, tc := 10#32 } (·.fault) = some (some (.zeroPeriodTick 10#32)) ∧
    after .tick { ready .w32 with mr0 := 0#32 } (fun t => (t.tc, t.mat0, t.trace)) =
      some (1#32, true, [some true]) := by decide

/-! WITNESSES: for every statement with hypotheses, concrete states and operands that meet all of them together. -/

/-- A state at reset whose bus master has the lines `ls` to issue. -/
def loaded (ls : List Line) : State := { State.reset with program := ls }

/-- `ready` under another policy for percents outside [0, 100]. -/
def policed (d : DutyPolicy) : State := { ready .w32 with cfg := { Config.standard with dutyPolicy := d } }

theorem test_meets_DecodeInvertsEncode : (Instr.setDuty 100).wf = true ∧
    (Instr.setDuty 100).toLine = some (.setDuty 100#32) ∧ encode (.wrMr3 1600#32) = [0xA02400000640#48] ∧
    Instr.delay ≠ .tick := by decide
theorem test_meets_EncodeInvertsDecode : decode 0xA02400000640#48 = .ok (.wrMr3 1600#32) ∧
    decodeLine (.setDuty 0x80000000#32) = .ok (.setDuty (-2147483648)) := ⟨rfl, rfl⟩
/-- Block 3, block 7, offset bits 1:0 = 1, offset bits 1:0 = 3, and the last aligned offset of block 2. -/
theorem test_meets_IllegalWordsRaiseUnmapped :
    decode 0x300400000000#48 = .error .reservedBlock ∧ decode 0xFFFC00000000#48 = .error .reservedBlock ∧
    decode 0x100100000000#48 = .error .misalignedOffset ∧ decode 0xA07700000000#48 = .error .misalignedOffset ∧
    decode 0x2FFC00000000#48 = .error .unlistedOffset ∧ (loaded [.txn 0x2FFC00000000#48]).fault = none ∧
    (loaded [.txn 0x2FFC00000000#48]).ticksNext = false := ⟨rfl, rfl, rfl, rfl, rfl, rfl, rfl⟩
theorem test_meets_MisalignedOffsetRaisesUnmapped : (0x100100000000#48 : Txn).extractLsb' 32 2 ≠ 0#2 ∧
    (loaded [.txn 0x100100000000#48]).fault = none := by decide
theorem test_meets_ReadsIgnoreTheirData : (ready .w32).fault = none ∧ (ready .w32).gateOK .tc = true ∧
    (ready .w32).gateOK .pinOd = true := by decide
theorem test_meets_BusAddressesNameTheirRegister : Config.standard.BasesWF ∧
    Config.BasesWF { Config.standard with tmrBase := 0xFFFFF000#32, clkBase := 0#32 } := by decide
theorem test_meets_StepRunsTheDecodedLine : (loaded [.delay]).fault = none ∧ (loaded [.delay]).ticksNext = false ∧
    (decodeLine .delay).toOption = some .delay ∧ Instr.delay.wf = true := by decide
theorem test_meets_StepTakesTheTick : (ready .w32).ticksNext = true := by decide
theorem test_meets_AnyNumberOfTicksFitsBetween :
    ({ ready .w32 with program := [.delay] } : State).tickEnabled = true ∧ (ready .w32).mr3 ≠ 0#32 := by decide

/-- The counter running on after the end of the program. -/
def tickRun : Nat → State
  | 0 => ready .w32
  | n + 1 => (tickRun n).ticked.tickTaken

theorem tickRun_keeps (n : Nat) : (tickRun n).tickEnabled = true ∧ (tickRun n).program = [] ∧
    (tickRun n).mr3 = 1600#32 ∧ (tickRun n).fault = none := by
  induction n with
  | zero => decide
  | succ n ih => simpa [tickRun] using ih

theorem test_meets_TickAgentIsFair : ∀ n, step (tickRun n) = .next (tickRun (n + 1)) := by
  intro n
  obtain ⟨he, hp, hm, hf⟩ := tickRun_keeps n
  refine step_next.2 ⟨hf, .inl ⟨by simp [State.ticksNext, he, hp], ?_⟩⟩
  exact settle_next.2 ⟨_, execTick_next.2 ⟨he, .inr ⟨by rw [hm]; decide, rfl⟩⟩, .inl ⟨hf, rfl⟩⟩

theorem test_meets_NoAgentEnabledStopsByName : State.reset.fault = none ∧ State.reset.program = [] ∧
    State.reset.tickEnabled = false := by decide
theorem test_meets_FaultDisablesEveryStep :
    ({ State.reset with fault := some (.zeroPeriodTick 0#32) } : State).fault = some (.zeroPeriodTick 0#32) := rfl
theorem test_meets_FaultsArePreciseAndFinal :
    (∃ t f, exec (.rdTc 0#32) State.reset = .next t ∧ t.fault = some f) ∧
    (∃ t f, step (loaded [.txn 0x200800000000#48]) = .next t ∧ t.fault = some f) :=
  ⟨⟨_, _, rfl, rfl⟩, ⟨_, _, rfl, rfl⟩⟩
theorem test_meets_FaultsAreCheckedInOrder :
    (decode 0x300000000000#48 = .error .reservedBlock) ∧
    (decode 0x200800000000#48 = .ok (.rd .tc 0#32) ∧ ∃ t, busStep (loaded [.txn 0x200800000000#48]) = .next t) ∧
    (decode 0x808000000000#48 = .ok (.wr .clkctrl 0#32) ∧ ∃ t, busStep (loaded [.txn 0x808000000000#48]) = .next t) ∧
    (∃ t, exec (.setDuty 101) State.reset = .next t) ∧ (∃ t, exec .tick (ready .w32) = .next t) :=
  ⟨rfl, ⟨rfl, _, rfl⟩, ⟨rfl, _, rfl⟩, ⟨_, rfl⟩, ⟨_, rfl⟩⟩

theorem test_meets_RdClkctrlReturnsTheRegister : State.reset.fault = none := rfl
theorem test_meets_WrClkctrlStoresOrRefusesClearing :
    (0x100C0#32 &&& ~~~0xFFFFFFFF#32 &&& 0x000100C0#32 = 0#32) ∧ 0x80#32 &&& ~~~0#32 &&& 0x000100C0#32 ≠ 0#32 ∧
    (clocked 0x100C0#32).fault = none := by decide
theorem test_meets_OrwReadsFirst : (clocked 0x80#32).gateOK .mcr = true ∧ (clocked 0x80#32).gateOK .pinOd = false ∧
    (clocked 0x80#32).fault = none := by decide
theorem test_meets_OrwStoresValueOrMask : (clocked 0x80#32).fault = none ∧ (clocked 0x80#32).gateOK .tcr = true ∧
    ¬ (Reg.tcr = .tcr ∧ (0#32 ||| 2#32 : Word)[0] = true ∧ (clocked 0x80#32).mr3 = 0#32) ∧
    (0#32 ||| 1#32 : Word)[0] = true ∧ (clocked 0x80#32).mr3 = 0#32 := by decide
theorem test_meets_GateBitsStaySet :
    (∃ t, exec (.wrClkctrl 0x100C0#32) (clocked 0x100C0#32) = .next t) ∧
    (∃ t, step { clocked 0x100C0#32 with program := [.txn 0x8080000100C0#48] } = .next t) ∧
    (0x100C0#32 : Word)[6] = true ∧ (0x100C0#32 : Word)[7] = true ∧ (0x100C0#32 : Word)[16] = true :=
  ⟨⟨_, rfl⟩, ⟨_, rfl⟩, rfl, rfl, rfl⟩

theorem test_meets_PinReadsReturnTheRegister : (clocked 0x10040#32).PinsClocked ∧ ¬ (clocked 0x40#32).PinsClocked ∧
    ¬ (clocked 0x10000#32).PinsClocked ∧ (clocked 0x10040#32).fault = none := by decide
theorem test_meets_PinWritesStoreTheMaskedData : (clocked 0x10040#32).PinsClocked ∧
    ¬ (clocked 0x10080#32).PinsClocked ∧ (clocked 0x10040#32).fault = none := by decide
theorem test_meets_ConfigurePinsStarts : State.reset.fault = none := rfl
theorem test_meets_ConfigurePinsCompletes : (loaded [.configurePins]).fault = none ∧
    (loaded [.configurePins]).program = .configurePins :: [] := by decide
theorem test_meets_ConfigurePinsFromReset : Config.standard.WF ∧
    Config.WF { Config.standard with clkctrlReset := 0xFFFEFF3F#32, pinResetPwm := 0x43F#32, funcPwmMat0 := 7#3 } := by
  decide
theorem test_meets_ElectricalFieldsDoNotShow :
    (0x43A#32 : Word).extractLsb' 0 3 = (ready .w32).pinPwm.extractLsb' 0 3 ∧
    ∃ t, ticks 2 (ready .w32) = .next t := ⟨rfl, _, rfl⟩

theorem test_meets_TimerReadsReturnTheRegister : (clocked 0x80#32).TimerClocked ∧ ¬ (clocked 0x1007F#32).TimerClocked ∧
    (clocked 0x80#32).fault = none := by decide
theorem test_meets_TimerWritesStoreTheMaskedData : (ready .w16).TimerClocked ∧ ¬ State.reset.TimerClocked ∧
    (ready .w16).fault = none := by decide
theorem test_meets_WrTcrStartsOrRefusesZeroPeriod : (ready .w32).clkctrl[7] = true ∧ (ready .w32).mr3 ≠ 0#32 ∧
    (2#32 : Word)[0] = false ∧ (clocked 0x80#32).clkctrl[7] = true ∧ (1#32 : Word)[0] = true ∧
    (clocked 0x80#32).mr3 = 0#32 ∧ State.reset.clkctrl[7] = false := by decide
theorem test_meets_TickEnabledExactlyWhenRunning : (clocked 0x80#32).fault = none ∧
    ¬ ((clocked 0x80#32).clkctrl[7] = true ∧ (clocked 0x80#32).tcr[0] = true) := by decide
theorem test_meets_TickLatchesSamplesAndCounts : (ready .w16).fault = none ∧ (ready .w16).clkctrl[7] = true ∧
    (ready .w16).tcr[0] = true ∧ (ready .w16).mr3 ≠ 0#32 := by decide
theorem test_meets_ZeroPeriodTickFaults :
    (({ ready .w32 with mr3 := 0#32 } : State).clkctrl[7] = true ∧
      ({ ready .w32 with mr3 := 0#32 } : State).tcr[0] = true) ∧
    ((ready .w32).mr3 ≠ 0#32 ∧ ∃ t, exec (.wrMr3 0#32) (ready .w32) = .next t ∧ t.tcr[0] = true ∧ t.mr3 = 0#32) :=
  ⟨by decide, by decide, _, rfl, rfl, rfl⟩

/-- The counter of `ready` is set up for the period it has. -/
theorem ready_set_up (w : TimerWidth) (p : Word) (h : p ≠ 0#32) :
    ({ ready w with mr3 := p } : State).PeriodSetUp p.toNat := by
  refine ⟨?_, rfl, rfl, ?_⟩
  · show (ready w).tickEnabled = true
    cases w <;> decide
  · exact Nat.pos_of_ne_zero fun e => h (BitVec.eq_of_toNat_eq e)

/-- The smallest and the largest period, a counter past its period, and a free-running one. -/
theorem test_meets_CounterIsPeriodic :
    ({ ready .w32 with mr3 := 1#32 } : State).PeriodSetUp 1 ∧
    ({ ready .w16 with mr3 := 65535#32 } : State).PeriodSetUp 65535 ∧ (ready .w16).tc.toNat < 1 ∧
    1600 ≤ ({ ready .w16 with tc := 65535#32 } : State).tc.toNat ∧
    ({ ready .w16 with tc := 65535#32 } : State).tc.toNat + 1 ≤ 2 ^ TimerWidth.w16.bits ∧
    ({ ready .w16 with mcr := 0#32 } : State).tickEnabled = true :=
  ⟨ready_set_up .w32 1#32 (by decide), ready_set_up .w16 65535#32 (by decide), by decide, by decide, by decide,
    by decide⟩

theorem test_meets_InitPwmStarts : State.reset.fault = none := rfl
theorem test_meets_InitPwmCompletes : (loaded [.initPwm]).cfg.WF ∧ (loaded [.initPwm]).fault = none := by decide
/-- A run from reset to the end of the macro, and one in which a TICK faults before its first transaction. -/
theorem test_meets_InitPwmUnderEveryInterleaving : (loaded [.initPwm]).cfg.WF ∧
    (∃ t, Runs 8 (loaded [.initPwm]) t ∧ t.fault = none ∧ t.program = []) ∧
    ∃ t, Runs 1 { ready .w32 with program := [.initPwm], mr3 := 0#32, ticksDue := 1 } t ∧
      t.fault = some (.zeroPeriodTick 0#32) :=
  ⟨by decide, ⟨_, rfl, rfl, rfl⟩, ⟨_, rfl, rfl⟩⟩
theorem test_meets_InitPwmFromReset :
    Config.WF { Config.standard with timerWidth := .w16, timerClkHz := 65535, pwmHz := 1 } := by decide

theorem test_meets_SetDutyFollowsThePolicy :
    ((-1 : Int) < 0 ∧ (100 : Int) < 101 ∧ (0 : Int) ≤ 0 ∧ (100 : Int) ≤ 100) ∧
    (policed .fault).cfg.dutyPolicy = .fault ∧ (policed .passthrough).cfg.dutyPolicy = .passthrough ∧
    (policed .clamp).cfg.dutyPolicy = .clamp ∧ (policed .clamp).clkctrl[7] = true ∧ (policed .clamp).fault = none ∧
    State.reset.clkctrl[7] = false := by decide
theorem test_meets_SetDutyInRangeStores1600Minus16p : 100 ≤ 100 ∧ (ready .w16).fault = none ∧
    (ready .w16).clkctrl[7] = true := by decide
theorem test_meets_DelayChangesNothing : (ready .w32).fault = none := rfl
theorem test_meets_FullCycleHighSamples : (ready .w32).PeriodSetUp 1600 ∧ (ready .w32).tc = 0#32 ∧
    (ready .w32).pinPwm.extractLsb' 0 3 = (ready .w32).cfg.funcPwmMat0 ∧ (ready .w32).pwmc[0] = true :=
  ⟨ready_set_up .w32 1600#32 (by decide), by decide⟩
/-- The first and the last tick after which a write falls inside the cycle. -/
theorem test_meets_MidCycleDutyWrite : ({ ready .w32 with mr3 := 2#32 } : State).PeriodSetUp 2 ∧ 0 + 1 < 2 ∧
    (ready .w32).PeriodSetUp 1600 ∧ 1598 + 1 < 1600 ∧ (ready .w32).tc = 0#32 ∧ (ready .w32).pwmc[0] = true :=
  ⟨ready_set_up .w32 2#32 (by decide), by decide, ready_set_up .w32 1600#32 (by decide), by decide⟩
theorem test_meets_SetDutyGivesItsPercentage : (ready .w16).PeriodSetUp 1600 ∧ (ready .w16).tc = 0#32 ∧
    (ready .w16).pinPwm.extractLsb' 0 3 = (ready .w16).cfg.funcPwmMat0 ∧ (ready .w16).pwmc[0] = true :=
  ⟨ready_set_up .w16 1600#32 (by decide), by decide⟩

theorem test_meets_ReadsHaveNoSideEffect : (ready .w32).fault = none ∧ ∀ r : Reg, (ready .w32).gateOK r = true :=
  ⟨rfl, fun r => by cases r <;> rfl⟩
/-- Two reads with ticks between them, two of TC with none, and a write and its repetition. -/
theorem test_meets_RepeatedAccessesAgree :
    (∃ u v t, exec (.rd .mr0 0#32) (ready .w32) = .next u ∧ ticks 3 u = .next v ∧ exec (.rd .mr0 1#32) v = .next t) ∧
    (∃ u v t, exec (.rd .tc 0#32) (ready .w32) = .next u ∧ ticks 0 u = .next v ∧ exec (.rd .tc 1#32) v = .next t) ∧
    ∃ u, exec (.wr .tcr 1#32) (ready .w32) = .next u ∧ u.fault = none :=
  ⟨⟨_, _, _, rfl, rfl, rfl⟩, ⟨_, _, _, rfl, rfl, rfl⟩, ⟨_, rfl, rfl⟩⟩
theorem test_meets_RegistersChangeByTheirOwnWrite :
    ∃ t, exec (.wr .mr0 800#32) (ready .w32) = .next t ∧ t.stored .mr0 ≠ (ready .w32).stored .mr0 :=
  ⟨_, rfl, by decide⟩
theorem test_meets_OnlyTicksMoveTheOutput : (∃ t, exec (.wrTc 0#32) (ready .w32) = .next t) ∧
    Instr.wrTc 0#32 ≠ .tick := ⟨⟨_, rfl⟩, by decide⟩
theorem test_meets_ParametersNeverChange : (∃ t, step (ready .w32) = .next t) ∧ ∃ t, exec .delay State.reset = .next t :=
  ⟨⟨_, rfl⟩, ⟨_, rfl⟩⟩
theorem test_meets_ResetLeavesTheResetValues :
    Config.WF { Config.standard with clkctrlReset := 0xFFFEFF3F#32, pinResetOd := 0x43F#32 } := by decide
theorem test_meets_ResetMeetsTheInvariant :
    Config.WF { Config.standard with timerWidth := .w16, pinResetPwm := 1#32 } := by decide
theorem test_meets_StepKeepsTheInvariant : (ready .w16).Inv ∧ ∃ t, step (ready .w16) = .next t :=
  ⟨⟨by decide, fun r => by cases r <;> rfl, by decide, by decide⟩, ⟨_, rfl⟩⟩
/-- A program with SET_DUTY at both ends of its range. -/
theorem test_meets_BootSequenceNeverFaults : Config.standard.WF ∧
    (∀ l ∈ [Line.setDuty 0#32, .delay, .setDuty 100#32],
      l = .delay ∨ ∃ p : BitVec 32, l = .setDuty p ∧ 0 ≤ p.toInt ∧ p.toInt ≤ 100) := by
  refine ⟨by decide, ?_⟩
  intro l hl
  simp only [List.mem_cons, List.not_mem_nil, or_false] at hl
  rcases hl with rfl | rfl | rfl
  · exact .inr ⟨_, rfl, by decide⟩
  · exact .inl rfl
  · exact .inr ⟨_, rfl, by decide⟩

end Sys2Proof.Tests
end

section
/-! PROOFS. What the steps of the two agents are, on top of Laws/Ops.lean and Laws/Exec.lean. -/

namespace Sys2Proof.Machine

/-- A TICK of a running counter whose period is not zero. -/
theorem exec_tick_of_running {s : State} (he : s.tickEnabled = true) (hm : s.mr3 ≠ 0#32) :
    exec .tick s = .next s.ticked :=
  execTick_next.2 ⟨he, .inr ⟨hm, rfl⟩⟩

/-- What a tick agent's step that answers a next state did. -/
theorem tickStep_next {s t : State} : tickStep s = .next t ↔ s.tickEnabled = true ∧
    ((s.mr3 = 0#32 ∧ t = s.faulted (.zeroPeriodTick s.tc)) ∨ (s.mr3 ≠ 0#32 ∧ t = s.ticked.tickTaken)) := by
  have live : s.tickEnabled = true → s.fault = none := by simp [State.tickEnabled]
  constructor
  · intro h
    obtain ⟨u, hu, hs⟩ := settle_next.1 h
    obtain ⟨he, ⟨hm, rfl⟩ | ⟨hm, rfl⟩⟩ := execTick_next.1 hu
    · exact ⟨he, .inl ⟨hm, by simpa using hs⟩⟩
    · exact ⟨he, .inr ⟨hm, by simpa [live he] using hs⟩⟩
  · rintro ⟨he, ⟨hm, rfl⟩ | ⟨hm, rfl⟩⟩
    · exact settle_next.2 ⟨_, execTick_next.2 ⟨he, .inl ⟨hm, rfl⟩⟩, .inr ⟨by simp, rfl⟩⟩
    · exact settle_next.2 ⟨_, exec_tick_of_running he hm, .inl ⟨live he, rfl⟩⟩

/-- At the tick agent's turn a TICK is enabled. -/
theorem State.tickEnabled_of_ticksNext {s : State} (h : s.ticksNext = true) : s.tickEnabled = true := by
  rw [State.ticksNext, Bool.and_eq_true] at h
  exact h.1

/-- A TICK is enabled only with FAULT empty (R79). -/
theorem State.fault_of_tickEnabled {s : State} (h : s.tickEnabled = true) : s.fault = none := by
  simp only [State.tickEnabled, Bool.and_eq_true, Option.isNone_iff_eq_none] at h
  exact h.2

/-- A step at the tick agent's turn. -/
theorem step_of_ticksNext {s : State} (h : s.ticksNext = true) : step s = tickStep s := by
  have live := State.fault_of_tickEnabled (State.tickEnabled_of_ticksNext h)
  simp only [step, stepOf, whenLive_live live, h, if_true]

/-- A live step at the bus master's turn. -/
theorem step_of_not_ticksNext {s : State} (live : s.fault = none) (h : s.ticksNext = false) : step s = busStep s := by
  simp [step, stepOf, whenLive_live live, h]

/-- The bus master issues the instruction its next line decodes to. -/
theorem busStep_of_decodeLine {s : State} {l : Line} {ls : List Line} {i : Instr} (hp : s.program = l :: ls)
    (hd : decodeLine l = .ok i) : busStep s = settle State.rearm (exec i s) := by
  simp [busStep, hp, hd]

/-- No line of the bus master is a TICK. -/
theorem decodeLine_ne_tick (l : Line) : decodeLine l ≠ .ok .tick := by
  cases l with
  | txn w =>
    intro h
    cases hd : decode w with
    | error e => simp [decodeLine, hd] at h
    | ok i =>
      obtain ⟨r, -, hi⟩ := decode_ok hd
      have hne : i ≠ .tick := by
        rw [hi]
        split
        · exact wr_ne_tick _ _
        · exact rd_ne_tick _ _
      simp [decodeLine, hd, hne] at h
  | orw r m => simp [decodeLine]
  | configurePins => simp [decodeLine]
  | initPwm => simp [decodeLine]
  | setDuty p => simp [decodeLine]
  | delay => simp [decodeLine]

/-- What holds of a state and is kept by every step holds after every run from it. -/
theorem Runs.induct {P : State → Prop} (keeps : ∀ t u, P t → step t = .next u → P u) {n : Nat} {s t : State}
    (hs : P s) (hr : Runs n s t) : P t := by
  induction n generalizing s with
  | zero => exact runs_zero.1 hr ▸ hs
  | succ n ih =>
    obtain ⟨u, hu, hr⟩ := runs_succ.1 hr
    exact ih (keeps s u hs hu) hr

/-! Turns. -/

/-- Settles O9. -/
theorem stepRunsTheDecodedLine : Obligations.StepRunsTheDecodedLine := by
  intro s l ls i live turn hp hd _
  rw [step_of_not_ticksNext live turn, busStep_of_decodeLine hp hd]
  cases exec i s with
  | next t => cases hf : t.fault <;> simp [settle, hf, State.rearm]
  | fault f => rfl
  | refused r => rfl

/-- Settles O10. -/
theorem stepTakesTheTick : Obligations.StepTakesTheTick := by
  intro s
  refine ⟨by simp [State.ticksNext], fun h => ?_⟩
  rw [step_of_ticksNext h, tickStep]
  cases exec .tick s with
  | next t => cases hf : t.fault <;> simp [settle, hf, State.tickTaken]
  | fault f => rfl
  | refused r => rfl

/-- Settles O11, by induction on the number of ticks: with one more due, the next step is a TICK, which leaves the counter
running, MR3 and the program as they were and one tick less due. -/
theorem anyNumberOfTicksFitsBetween : Obligations.AnyNumberOfTicksFitsBetween := by
  intro k
  induction k with
  | zero =>
    intro s _ _ hp
    exact ⟨{ s with ticksDue := 0 }, rfl, rfl, by simp [State.ticksNext, hp], rfl⟩
  | succ k ih =>
    intro s he hm hp
    obtain ⟨t, ht, hr, hn, hprog⟩ := ih s.ticked he hm hp
    have tick : exec .tick { s with ticksDue := 0 } = .next { s.ticked with ticksDue := 0 } :=
      exec_tick_of_running (s := { s with ticksDue := 0 }) he hm
    have turn : ({ s with ticksDue := k + 1 } : State).ticksNext = true := by
      rw [State.ticksNext, show ({ s with ticksDue := k + 1 } : State).tickEnabled = true from he]
      rfl
    have first : step { s with ticksDue := k + 1 } = .next { s.ticked with ticksDue := k } :=
      (step_of_ticksNext turn).trans (tickStep_next.2 ⟨he, .inr ⟨hm, rfl⟩⟩)
    exact ⟨t, iter_succ.2 ⟨_, tick, ht⟩, runs_succ.2 ⟨_, first, hr⟩, hn, hprog⟩

/-! Fairness: a program is a finite list of lines, so only finitely many of the bus master's steps can follow each other
(log entry 17). -/

/-- How many steps of the bus master an instruction takes: a macro one for each of its transactions (R31). -/
def instrSteps : Instr → Nat
  | .orw _ _ => 2
  | .configurePins => 8
  | .initPwm => 8
  | _ => 1

/-- How many steps of the bus master a line takes; a word that names no register takes the one that faults. -/
def lineSteps (l : Line) : Nat :=
  match decodeLine l with
  | .ok i => instrSteps i
  | .error _ => 1

/-- How many steps the bus master still has to take, if none faults. -/
def State.busStepsLeft (s : State) : Nat := (s.program.map lineSteps).sum

theorem instrSteps_pos (i : Instr) : 0 < instrSteps i := by cases i <;> simp [instrSteps]

theorem lineSteps_of_decodeLine {l : Line} {i : Instr} (h : decodeLine l = .ok i) : lineSteps l = instrSteps i := by
  simp [lineSteps, h]

@[simp] theorem decodeLine_wrWord (r : Reg) (d : Word) : decodeLine (.txn (wrWord r d)) = .ok (.wr r d) := by
  simp [decodeLine]

@[simp] theorem lineSteps_wrWord (r : Reg) (d : Word) : lineSteps (.txn (wrWord r d)) = 1 := by
  rw [lineSteps_of_decodeLine (decodeLine_wrWord r d)]
  cases r <;> rfl

@[simp] theorem lineSteps_orw (r : Reg) (m : Word) : lineSteps (.orw r m) = 2 := rfl

/-- Every instruction of the bus master that raises no fault leaves fewer steps to take, a macro one less. -/
theorem busStepsLeft_exec_lt {s t : State} {l : Line} {ls : List Line} {i : Instr} (hp : s.program = l :: ls)
    (hd : decodeLine l = .ok i) (h : exec i s = .next t) (ht : t.fault = none) :
    t.busStepsLeft < s.busStepsLeft := by
  have hs : s.busStepsLeft = instrSteps i + (ls.map lineSteps).sum := by
    simp [State.busStepsLeft, hp, lineSteps_of_decodeLine hd]
  have dropped : t.program = s.program.tail → t.busStepsLeft < s.busStepsLeft := by
    intro htail
    have := instrSteps_pos i
    rw [hs, State.busStepsLeft, htail, hp, List.tail_cons]
    omega
  obtain ⟨-, effect⟩ := exec_effect h
  cases effect with
  | faulted f e => simp [e] at ht
  | read r x _ _ e => exact dropped (by simp [e])
  | write r d _ _ e => exact dropped (by simp [e])
  | duty p v _ _ _ e => exact dropped (by simp [e])
  | delay _ e => exact dropped (by simp [e])
  | tick hi => exact absurd (hi ▸ hd) (decodeLine_ne_tick l)
  | orw r m rest _ hi e =>
    rw [hs, e]
    obtain ⟨rfl, rfl⟩ | ⟨rfl, -, -, rfl⟩ | ⟨rfl, -, -, rfl⟩ := hi <;>
      simp [State.busStepsLeft, instrSteps, hp, configurePinsRest, initPwmRest] <;> omega

/-- Settles O12, by induction on the steps the bus master has left: a step of an infinite run raises no fault, so it is a
TICK or leaves the bus master fewer steps. -/
theorem tickAgentIsFair : Obligations.TickAgentIsFair := by
  intro run hrun n
  induction hw : (run n).busStepsLeft using Nat.strong_induction_on generalizing n with
  | _ w ih =>
    obtain ⟨-, ⟨f, hf⟩ | ⟨l, ls, i, u, -, hp, hd, hu, hlive, ht⟩ | ⟨turn, -, ht⟩⟩ := step_effect (hrun n)
    · obtain ⟨live, -⟩ := step_effect (hrun (n + 1))
      simp [hf] at live
    · have less : (run (n + 1)).busStepsLeft < w := by
        have kept : u.rearm.busStepsLeft = u.busStepsLeft := rfl
        rw [← hw, ht, kept]
        exact busStepsLeft_exec_lt hp hd hu hlive
      obtain ⟨m, hm, tick⟩ := ih _ less (n + 1) rfl
      exact ⟨m, by omega, tick⟩
    · exact ⟨n, le_rfl, turn, by simp [ht]⟩

/-! Parameters. -/

/-- No operation changes a parameter. -/
theorem Effect.cfg_eq {i : Instr} {s t : State} (h : Effect i s t) : t.cfg = s.cfg := by
  cases h with
  | faulted f e => simp [e]
  | read r x _ _ e => simp [e]
  | write r d _ _ e => simp [e]
  | duty p v _ _ _ e => simp [e]
  | orw r m ls _ _ e => simp [e]
  | delay _ e => simp [e]
  | tick _ _ _ e => simp [e]

/-- Settles O50. -/
theorem parametersNeverChange : Obligations.ParametersNeverChange := by
  rintro s t (hstep | ⟨i, hexec⟩)
  · obtain ⟨-, ⟨f, rfl⟩ | ⟨l, ls, i, u, -, -, -, hu, -, rfl⟩ | ⟨-, -, rfl⟩⟩ := step_effect hstep
    · rfl
    · exact (exec_effect hu).2.cfg_eq
    · rfl
  · exact (exec_effect hexec).2.cfg_eq

end Sys2Proof.Machine
end

section
/-! PROOFS. INIT_PWM (42_timer.md R83): the read of CLKCTRL, then seven writes with TICKs between them or not. -/

namespace Sys2Proof.Machine

open Host (Outcome)

/-- A write whose group is clocked and that passes its own check (R50, R70). -/
structure WritePasses (s : State) (r : Reg) (d : Word) : Prop where
  clocked : s.gateOK r = true
  keepsGates : r = .clkctrl → clearedGates s.clkctrl d = 0#32
  hasPeriod : r = .tcr → s.mr3 ≠ 0#32

/-- The state after a bus master's step that wrote a register. -/
def State.issued (s : State) (r : Reg) (d : Word) : State := (s.writeReg r d).retire.rearm

@[simp] theorem State.issued_stored (s : State) (r r' : Reg) (d : Word) :
    (s.issued r d).stored r' = if r' = r then d &&& wmask s.cfg r else s.stored r' := by
  simp [State.issued, State.stored_writeReg]

@[simp] theorem State.issued_cfg (s : State) (r : Reg) (d : Word) : (s.issued r d).cfg = s.cfg := by
  simp [State.issued]

@[simp] theorem State.issued_fault (s : State) (r : Reg) (d : Word) : (s.issued r d).fault = s.fault := by
  simp [State.issued]

@[simp] theorem State.issued_program (s : State) (r : Reg) (d : Word) :
    (s.issued r d).program = s.program.tail := by
  simp [State.issued]

@[simp] theorem State.issued_pc (s : State) (r : Reg) (d : Word) : (s.issued r d).pc = s.pc + 1 := by
  simp [State.issued]

/-- A live write that passes its checks stores its data and goes on. -/
theorem exec_wr_of_passes {s : State} {r : Reg} {d : Word} (live : s.fault = none) (pass : WritePasses s r d) :
    exec (.wr r d) s = .next (s.writeReg r d).retire := by
  by_cases hclk : r = .clkctrl
  · subst hclk
    exact execWrClkctrl_next.2 ⟨live, .inl ⟨pass.keepsGates rfl, rfl⟩⟩
  by_cases htcr : r = .tcr
  · subst htcr
    exact execWrTcr_next.2 ⟨live, .inl ⟨pass.clocked, fun h => pass.hasPeriod rfl h.2, rfl⟩⟩
  · rw [exec_wr d s hclk htcr]
    exact busWrite_next.2 ⟨live, .inl ⟨pass.clocked, rfl⟩⟩

theorem busStep_wr_of_passes {s : State} {r : Reg} {d : Word} {ls : List Line}
    (hp : s.program = .txn (wrWord r d) :: ls) (live : s.fault = none) (pass : WritePasses s r d) :
    busStep s = .next (s.issued r d) := by
  rw [busStep_of_decodeLine hp (decodeLine_wrWord r d)]
  exact settle_next.2 ⟨_, exec_wr_of_passes live pass, .inl ⟨by simp [live], rfl⟩⟩

/-! The words INIT_PWM writes. -/

/-- CLKCTRL has no reserved bit: the write mask of R42 keeps the whole word. -/
theorem and_clkctrl_mask (v : Word) : v &&& 0xFFFFFFFF#32 = v := BitVec.and_allOnes

/-- The writes of INIT_PWM from the state `s`, in order: of which register, and of what. -/
def initPwmWrites (s : State) : List (Reg × Word) :=
  [(.clkctrl, s.clkctrl ||| 0x00000080#32), (.mr3, periodWord s.cfg), (.mr0, periodWord s.cfg),
   (.mcr, 0x00000400#32), (.tc, 0x00000000#32), (.pwmc, 0x00000001#32), (.tcr, 0x00000001#32)]

/-- The line that issues a write. -/
def writeLine (p : Reg × Word) : Line := .txn (wrWord p.1 p.2)

/-- PERIOD_VALUE fits a bus word (R4). -/
theorem periodWord_toNat {c : Config} (h : c.PeriodWF) : (periodWord c).toNat = c.periodValue := by
  obtain ⟨-, -, -, fits⟩ := h
  have : c.periodValue < 2 ^ 32 := by cases hw : c.timerWidth <;> simp [hw, TimerWidth.bits] at fits <;> omega
  rw [periodWord, BitVec.toNat_ofNat, Nat.mod_eq_of_lt this]

theorem periodWord_ne_zero {c : Config} (h : c.PeriodWF) : periodWord c ≠ 0#32 := by
  intro hz
  have hn := periodWord_toNat h
  obtain ⟨-, -, pos, -⟩ := h
  rw [hz] at hn
  exact pos.ne hn

/-- A timer of width W keeps every bit of PERIOD_VALUE (R4). -/
theorem periodWord_masked {c : Config} (h : c.PeriodWF) : periodWord c &&& c.timerWidth.mask = periodWord c := by
  apply BitVec.eq_of_toNat_eq
  have mask : c.timerWidth.mask.toNat = 2 ^ c.timerWidth.bits - 1 := by cases c.timerWidth <;> rfl
  have value := periodWord_toNat h
  obtain ⟨-, -, -, fits⟩ := h
  rw [BitVec.toNat_and, mask, Nat.and_two_pow_sub_one_eq_mod, value, Nat.mod_eq_of_lt fits]

/-- Every write of INIT_PWM stores the whole of its data: no register it writes masks a bit of it away. -/
theorem initPwmWrites_masked {s : State} {p : Reg × Word} (h : s.cfg.PeriodWF) (hp : p ∈ initPwmWrites s) :
    p.2 &&& wmask s.cfg p.1 = p.2 := by
  simp only [initPwmWrites, List.mem_cons, List.not_mem_nil, or_false] at hp
  have period := periodWord_masked h
  rcases hp with rfl | rfl | rfl | rfl | rfl | rfl | rfl <;> simp [wmask, period, and_clkctrl_mask]

/-- Where in INIT_PWM a write `(r, d)` stands: it is the first, or CLKCTRL has been written; and before WR_TCR, MR3 has. -/
theorem initPwmWrites_order {s : State} {done todo : List (Reg × Word)} {r : Reg} {d : Word}
    (h : done ++ (r, d) :: todo = initPwmWrites s) :
    (done = [] ∧ r = .clkctrl ∧ d = s.clkctrl ||| 0x00000080#32) ∨
    ((Reg.clkctrl, s.clkctrl ||| 0x00000080#32) ∈ done ∧ r ∈ [Reg.mr3, .mr0, .mcr, .tc, .pwmc, .tcr] ∧
      (r = .tcr → (Reg.mr3, periodWord s.cfg) ∈ done)) := by
  cases done with
  | nil =>
    simp only [initPwmWrites, List.nil_append, List.cons.injEq, Prod.mk.injEq] at h
    exact .inl ⟨rfl, h.1⟩
  | cons a done =>
    simp only [initPwmWrites, List.cons_append, List.cons.injEq] at h
    obtain ⟨rfl, h⟩ := h
    refine .inr ⟨by simp, ?_, ?_⟩
    · have hr := congrArg (List.map Prod.fst) h
      simp only [List.map_append, List.map_cons, List.map_nil] at hr
      simp [← hr]
    · rintro rfl
      cases done with
      | nil => simp at h
      | cons b done =>
        obtain ⟨rfl, -⟩ := List.cons.inj h
        simp

/-- INIT_PWM writes no register twice. -/
theorem initPwmWrites_fresh {s : State} {done todo : List (Reg × Word)} {r : Reg} {d : Word}
    (h : done ++ (r, d) :: todo = initPwmWrites s) : ∀ p ∈ done, p.1 ≠ r := by
  have nodup : ((done ++ (r, d) :: todo).map Prod.fst).Nodup := by
    rw [h]
    simp [initPwmWrites]
  rintro p hp rfl
  rw [List.map_append, List.nodup_append] at nodup
  obtain ⟨-, -, apart⟩ := nodup
  exact apart _ (List.mem_map_of_mem hp) _ (by simp) rfl

/-! INIT_PWM between two of its transactions. -/

/-- INIT_PWM, begun in the state `s`, has read CLKCTRL and made the writes `done`, and has the writes `todo` still to make.
TC may have counted on since its own write. -/
structure InitPwmAt (s t : State) (done todo : List (Reg × Word)) : Prop where
  split : done ++ todo = initPwmWrites s
  live : t.fault = none
  cfg : t.cfg = s.cfg
  program : t.program = todo.map writeLine ++ s.program.tail
  pc : t.pc = s.pc + 1 + done.length
  pinPwm : t.stored .pinPwm = s.stored .pinPwm
  clkctrl : done = [] → t.stored .clkctrl = s.stored .clkctrl
  written : ∀ p ∈ done, p.1 ≠ .tc → t.stored p.1 = p.2

/-- Writing CLKCTRL with more bits set clears no gate (R50). -/
theorem clearedGates_or (v m : Word) : clearedGates v (v ||| m) = 0#32 := by
  apply BitVec.eq_of_getLsbD_eq
  intro i hi
  cases hv : v.getLsbD i <;> simp [clearedGates, hv]

/-- The next write of INIT_PWM passes its checks: the timer is clocked once CLKCTRL is written, and MR3 is not 0 when
WR_TCR comes. -/
theorem InitPwmAt.passes {s t : State} {done todo : List (Reg × Word)} {r : Reg} {d : Word} (wf : s.cfg.PeriodWF)
    (h : InitPwmAt s t done ((r, d) :: todo)) : WritePasses t r d := by
  obtain ⟨hdone, rfl, rfl⟩ | ⟨hclk, hr, hmr3⟩ := initPwmWrites_order h.split
  · have kept : t.clkctrl = s.clkctrl := h.clkctrl hdone
    exact ⟨rfl, fun _ => kept ▸ clearedGates_or _ _, by simp⟩
  · have clk : t.clkctrl = s.clkctrl ||| 0x00000080#32 := h.written _ hclk (by simp)
    have gate : t.gateTimer = true := by simp [State.gateTimer, clk]
    refine ⟨?_, ?_, ?_⟩
    · simp only [List.mem_cons, List.not_mem_nil, or_false] at hr
      rcases hr with rfl | rfl | rfl | rfl | rfl | rfl <;> exact gate
    · rintro rfl
      simp at hr
    · intro htcr
      have mr3 : t.mr3 = periodWord s.cfg := h.written _ (hmr3 htcr) (by simp)
      exact mr3 ▸ periodWord_ne_zero wf

/-- The next write of INIT_PWM is made. -/
theorem InitPwmAt.issued {s t : State} {done todo : List (Reg × Word)} {r : Reg} {d : Word} (wf : s.cfg.PeriodWF)
    (h : InitPwmAt s t done ((r, d) :: todo)) : InitPwmAt s (t.issued r d) (done ++ [(r, d)]) todo where
  split := by simpa using h.split
  live := by simp [h.live]
  cfg := by simp [h.cfg]
  program := by simp [h.program]
  pc := by simp [h.pc, Nat.add_assoc]
  pinPwm := by
    have : Reg.pinPwm ≠ r := by
      obtain ⟨-, rfl, -⟩ | ⟨-, hr, -⟩ := initPwmWrites_order h.split
      · decide
      · rintro rfl
        simp at hr
    simp [this, h.pinPwm]
  clkctrl := by simp
  written := by
    intro p hp htc
    rw [State.issued_stored]
    obtain hp | hp := List.mem_append.1 hp
    · rw [if_neg (initPwmWrites_fresh h.split p hp), h.written p hp htc]
    · obtain rfl := List.mem_singleton.1 hp
      have mem : (r, d) ∈ initPwmWrites s := h.split ▸ by simp
      rw [if_pos rfl, h.cfg]
      exact initPwmWrites_masked wf mem

/-- A TICK between two transactions of INIT_PWM. -/
theorem InitPwmAt.ticked {s t : State} {done todo : List (Reg × Word)} (h : InitPwmAt s t done todo) :
    InitPwmAt s t.ticked.tickTaken done todo where
  split := h.split
  live := h.live
  cfg := h.cfg
  program := h.program
  pc := h.pc
  pinPwm := h.pinPwm
  clkctrl := h.clkctrl
  written := by
    intro p hp htc
    simp [State.ticked_stored, htc, h.written p hp htc]

/-- The bus master's next step makes the next write of INIT_PWM. -/
theorem InitPwmAt.busStep_eq {s t : State} {done todo : List (Reg × Word)} {r : Reg} {d : Word} (wf : s.cfg.PeriodWF)
    (h : InitPwmAt s t done ((r, d) :: todo)) : busStep t = .next (t.issued r d) :=
  busStep_wr_of_passes h.program h.live (h.passes wf)

/-- The bus master's steps with no TICK between them make all the writes. -/
theorem InitPwmAt.busRun_eq {s t : State} {done todo : List (Reg × Word)} (wf : s.cfg.PeriodWF)
    (h : InitPwmAt s t done todo) :
    busRun todo.length t = .next (todo.foldl (fun u p => u.issued p.1 p.2) t) := by
  induction todo generalizing t done with
  | nil => rfl
  | cons p todo ih => exact iter_succ.2 ⟨_, h.busStep_eq wf, ih (h.issued wf)⟩

/-! The first transaction. -/

/-- INIT_PWM stands next in the state `s`, and `t` has only waited for it since. -/
structure InitPwmWaiting (s t : State) : Prop where
  live : t.fault = none
  program : t.program = s.program
  cfg : t.cfg = s.cfg
  clkctrl : t.clkctrl = s.clkctrl
  pinPwm : t.pinPwm = s.pinPwm
  pc : t.pc = s.pc

/-- The state after the first transaction of INIT_PWM, which reads CLKCTRL. -/
def State.initPwmBegun (s : State) : State :=
  ((s.returned s.clkctrl).retireTo ((initPwmWrites s).map writeLine)).rearm

theorem busStep_initPwm {s : State} {ls : List Line} (live : s.fault = none) (hp : s.program = .initPwm :: ls) :
    busStep s = .next s.initPwmBegun := by
  have read : s.readReg .clkctrl = s.clkctrl := and_clkctrl_mask _
  rw [busStep_of_decodeLine hp (i := .initPwm) rfl]
  refine settle_next.2 ⟨_, orwThen_next.2 ⟨live, .inl ⟨rfl, rfl⟩⟩, .inl ⟨live, ?_⟩⟩
  rw [read]
  rfl

/-- The first transaction leaves all the writes to make. -/
theorem InitPwmWaiting.begun {s t : State} (h : InitPwmWaiting s t) :
    InitPwmAt s t.initPwmBegun [] (initPwmWrites s) where
  split := rfl
  live := h.live
  cfg := h.cfg
  program := by simp [State.initPwmBegun, initPwmWrites, h.program, h.cfg, h.clkctrl]
  pc := congrArg (· + 1) h.pc
  pinPwm := h.pinPwm
  clkctrl _ := h.clkctrl
  written := by simp

/-- A TICK before the first transaction. -/
theorem InitPwmWaiting.ticked {s t : State} (h : InitPwmWaiting s t) : InitPwmWaiting s t.ticked.tickTaken :=
  ⟨h.live, h.program, h.cfg, h.clkctrl, h.pinPwm, h.pc⟩

/-- Settles O37: the read, the seven writes one after the other, and what they leave together. -/
theorem initPwmCompletes : Obligations.InitPwmCompletes := by
  intro s ls wf live hp
  obtain ⟨-, -, period, -⟩ := wf
  have begun : InitPwmAt s s.initPwmBegun [] (initPwmWrites s) :=
    InitPwmWaiting.begun ⟨live, rfl, rfl, rfl, rfl, rfl⟩
  have word : periodWord s.cfg = BitVec.ofNat 32 (s.cfg.timerClkHz / s.cfg.pwmHz) := rfl
  refine iter_succ.2 ⟨_, busStep_initPwm live hp, (begun.busRun_eq period).trans (congrArg Outcome.next ?_)⟩
  rw [← word]
  simp [initPwmWrites, State.issued, State.initPwmBegun, State.writeReg, State.retire, State.retireTo, State.returned,
    State.rearm, wmask, periodWord_masked period, and_clkctrl_mask, hp]

/-! Every interleaving. -/

/-- Where a run from the state `s`, whose program is INIT_PWM alone, can be. -/
inductive InitPwmRun (s t : State) : Prop where
  /-- Before the first transaction. -/
  | waiting (h : InitPwmWaiting s t)
  /-- After the first transaction. -/
  | begun (done todo : List (Reg × Word)) (h : InitPwmAt s t done todo)
  /-- Stopped by a TICK, where MR3 was 0 while the counter ran (R81). -/
  | stopped (c : Word) (h : t.fault = some (.zeroPeriodTick c))

/-- A step keeps a run of INIT_PWM where it can be. -/
theorem InitPwmRun.step_keeps {s t u : State} (wf : s.cfg.PeriodWF) (hs : s.program = [.initPwm])
    (h : InitPwmRun s t) (hu : step t = .next u) : InitPwmRun s u := by
  obtain ⟨live, ⟨-, htick⟩ | ⟨-, hbus⟩⟩ := step_next.1 hu
  · obtain ⟨-, ⟨-, rfl⟩ | ⟨-, rfl⟩⟩ := tickStep_next.1 htick
    · exact .stopped t.tc rfl
    · cases h with
      | waiting h => exact .waiting h.ticked
      | begun done todo h => exact .begun done todo h.ticked
      | stopped c hf => simp [hf] at live
  · cases h with
    | waiting h =>
      obtain rfl := next_eq.1 ((busStep_initPwm live (h.program.trans hs)).symm.trans hbus)
      exact .begun _ _ h.begun
    | begun done todo h =>
      cases todo with
      | nil =>
        obtain ⟨l, ls, hp, -⟩ := busStep_next.1 hbus
        simp [h.program, hs] at hp
      | cons p todo =>
        obtain rfl := next_eq.1 ((h.busStep_eq wf).symm.trans hbus)
        exact .begun _ _ (h.issued wf)
    | stopped c hf => simp [hf] at live

/-- Settles O38: every step keeps the run where it can be, and a run at its end has made every write. -/
theorem initPwmUnderEveryInterleaving : Obligations.InitPwmUnderEveryInterleaving := by
  intro s t n wf live hp hr
  obtain ⟨-, -, period, -⟩ := wf
  have start : InitPwmRun s s := .waiting ⟨live, rfl, rfl, rfl, rfl, rfl⟩
  cases Runs.induct (fun _ _ => InitPwmRun.step_keeps period hp) start hr with
  | waiting h => exact ⟨.inl h.live, fun _ hend => by simp [h.program, hp] at hend⟩
  | stopped c hf => exact ⟨.inr ⟨c, hf⟩, fun hnone => by simp [hf] at hnone⟩
  | begun done todo h =>
    refine ⟨.inl h.live, fun _ hend => ?_⟩
    obtain rfl : todo = [] := by simpa [h.program, hp] using hend
    have all : done = initPwmWrites s := by simpa using h.split
    have written := h.written
    simp only [all, initPwmWrites, List.forall_mem_cons] at written
    obtain ⟨clkctrl, mr3, mr0, mcr, -, pwmc, tcr, -⟩ := written
    have value := periodWord_toNat period
    refine ⟨clkctrl (by decide), ?_, ?_, mcr (by decide), pwmc (by decide), tcr (by decide), ?_, h.pinPwm⟩
    · exact (congrArg BitVec.toNat (mr3 (by decide))).trans value
    · exact (congrArg BitVec.toNat (mr0 (by decide))).trans value
    · simp [h.pc, all, initPwmWrites]

end Sys2Proof.Machine
end

section
/-! PROOFS. What every operation and every step keeps of the state (10_state.md, 40_clock_gate.md R50, R52 to R54). -/

namespace Sys2Proof.Machine

/-! FAULT. -/

/-- Every operation begins with the check that FAULT is empty (R95). -/
theorem exec_eq_whenLive (i : Instr) (s : State) : ∃ k, exec i s = whenLive s k := by
  cases i <;> exact ⟨_, rfl⟩

/-- Settles O14: `step` and every operation begin with the check that FAULT is empty. -/
theorem faultDisablesEveryStep : Obligations.FaultDisablesEveryStep := by
  intro s f hf
  refine ⟨whenLive_faulted hf _, fun i => ?_⟩
  obtain ⟨k, hk⟩ := exec_eq_whenLive i s
  rw [hk, whenLive_faulted hf]

/-! The output. -/

/-- No operation but TICK changes the latch or takes a sample of the pin (R88). -/
theorem Effect.output_eq {i : Instr} {s t : State} (h : Effect i s t) (hi : i ≠ .tick) :
    t.mat0 = s.mat0 ∧ t.trace = s.trace := by
  cases h with
  | faulted f e => simp [e]
  | read r x _ _ e => simp [e]
  | write r d _ _ e => simp [e]
  | duty p v _ _ _ e => simp [e]
  | orw r m ls _ _ e => simp [e]
  | delay _ e => simp [e]
  | tick h => exact absurd h hi

/-- Settles O49. -/
theorem onlyTicksMoveTheOutput : Obligations.OnlyTicksMoveTheOutput := by
  intro i s t h hi
  obtain ⟨-, effect⟩ := exec_effect h
  exact effect.output_eq hi

/-! The clock gates. -/

/-- CLKCTRL alone says which registers are clocked (R52, R53). -/
theorem State.gateOK_eq_of_clkctrl {s t : State} (h : t.clkctrl = s.clkctrl) (r : Reg) : t.gateOK r = s.gateOK r := by
  cases r <;>
    simp [State.gateOK, State.pinGateOK, State.tmrGateOK, State.gateIocon, State.gateGpio, State.gateTimer, h]

/-- A write of `d` that clears no gate leaves a gate bit that was 1 at 1 (R50). -/
theorem getLsbD_of_clearedGates {v d : Word} (h : clearedGates v d = 0#32) {n : Nat}
    (gate : gateMask.getLsbD n = true) (was : v.getLsbD n = true) : d.getLsbD n = true := by
  have bit := congrArg (BitVec.getLsbD · n) h
  simp only [clearedGates, BitVec.getLsbD_and, BitVec.getLsbD_not, BitVec.lt_of_getLsbD was, was, gate] at bit
  simpa using bit

/-- A write of CLKCTRL that clears no gate leaves every clocked register clocked (R50). -/
theorem State.gateOK_writeReg_clkctrl {s : State} {d : Word} (h : clearedGates s.clkctrl d = 0#32) {r : Reg}
    (clocked : s.gateOK r = true) : (s.writeReg .clkctrl d).gateOK r = true := by
  have stored : (s.writeReg .clkctrl d).clkctrl = d := and_clkctrl_mask d
  have gpio := getLsbD_of_clearedGates h (n := 6) (by decide)
  have timer := getLsbD_of_clearedGates h (n := 7) (by decide)
  have iocon := getLsbD_of_clearedGates h (n := 16) (by decide)
  have pins : s.pinGateOK = true → (s.writeReg .clkctrl d).pinGateOK = true := by
    simp only [State.pinGateOK, State.gateIocon, State.gateGpio, Bool.and_eq_true, stored]
    exact fun ⟨hi, hg⟩ => ⟨iocon hi, gpio hg⟩
  have tmr : s.tmrGateOK = true → (s.writeReg .clkctrl d).tmrGateOK = true := by
    simpa only [State.tmrGateOK, State.gateTimer, stored] using timer
  cases r with
  | clkctrl => rfl
  | pinOd | pinDbg0 | pinDbg1 | pinPwm => exact pins clocked
  | tcr | tc | mcr | mr0 | mr3 | pwmc => exact tmr clocked

/-- A write that passes its check leaves every clocked register clocked. -/
theorem State.gateOK_writeReg {s : State} {r : Reg} {d : Word} (h : r = .clkctrl → clearedGates s.clkctrl d = 0#32)
    {r' : Reg} (clocked : s.gateOK r' = true) : (s.writeReg r d).gateOK r' = true := by
  by_cases hr : r = .clkctrl
  · subst hr
    exact State.gateOK_writeReg_clkctrl (h rfl) clocked
  · have kept : (s.writeReg r d).clkctrl = s.clkctrl :=
      (State.stored_writeReg s r .clkctrl d).trans (if_neg (Ne.symm hr))
    rwa [State.gateOK_eq_of_clkctrl kept]

/-! What a step may change: registers that are clocked, to values with reserved bits 0. -/

/-- The counter's next value has no bit from W up (R80). -/
theorem State.nextCount_masked (s : State) (c : Word) :
    s.nextCount c &&& s.cfg.timerWidth.mask = s.nextCount c := by
  unfold State.nextCount
  split
  · exact BitVec.zero_and
  · simp [succW, BitVec.and_assoc]

/-- `t` comes from `s` by a change of clocked registers alone, and of the latch only where the timer is clocked; every
register that changed has its reserved bits 0, and every register that was clocked still is. -/
structure ClockedChange (s t : State) : Prop where
  cfg : t.cfg = s.cfg
  stored (r : Reg) :
    t.stored r = s.stored r ∨ s.gateOK r = true ∧ t.stored r &&& wmask s.cfg r = t.stored r
  mat0 : t.mat0 = s.mat0 ∨ s.gateTimer = true
  gates (r : Reg) : s.gateOK r = true → t.gateOK r = true

/-- A change of other components than the parameters, the registers and the latch. -/
theorem ClockedChange.of_same {s t : State} (cfg : t.cfg = s.cfg) (stored : ∀ r, t.stored r = s.stored r)
    (mat0 : t.mat0 = s.mat0) : ClockedChange s t where
  cfg := cfg
  stored r := .inl (stored r)
  mat0 := .inl mat0
  gates r h := by rwa [State.gateOK_eq_of_clkctrl (stored .clkctrl)]

theorem ClockedChange.faulted (s : State) (f : Fault) : ClockedChange s (s.faulted f) :=
  .of_same rfl (by simp) rfl

/-- A write of a clocked register that clears no gate. -/
theorem ClockedChange.writeReg {s : State} {r : Reg} {d : Word} (clocked : s.gateOK r = true)
    (keepsGates : r = .clkctrl → clearedGates s.clkctrl d = 0#32) : ClockedChange s (s.writeReg r d).retire where
  cfg := by simp
  stored r' := by
    rw [State.retire_stored, State.stored_writeReg]
    split
    · next h => exact .inr ⟨h ▸ clocked, by rw [h, BitVec.and_assoc, BitVec.and_self]⟩
    · exact .inl rfl
  mat0 := .inl (by simp)
  gates r' h := by
    rw [State.retire_gateOK]
    exact State.gateOK_writeReg keepsGates h

/-- A TICK is enabled only where the timer is clocked (R79). -/
theorem State.gateTimer_of_tickEnabled {s : State} (h : s.tickEnabled = true) : s.gateTimer = true := by
  simp only [State.tickEnabled, Bool.and_eq_true] at h
  exact h.1.2

/-- A TICK changes TC and the latch of a clocked timer. -/
theorem ClockedChange.ticked {s : State} (h : s.tickEnabled = true) : ClockedChange s s.ticked where
  cfg := rfl
  stored r := by
    rw [State.ticked_stored]
    split
    · next hr =>
      subst hr
      exact .inr ⟨State.gateTimer_of_tickEnabled h, s.nextCount_masked s.tc⟩
    · exact .inl rfl
  mat0 := .inr (State.gateTimer_of_tickEnabled h)
  gates r hr := by rwa [State.gateOK_eq_of_clkctrl (s.ticked_clkctrl)]

/-- Every operation changes clocked registers alone. -/
theorem Effect.clockedChange {i : Instr} {s t : State} (h : Effect i s t) : ClockedChange s t := by
  cases h with
  | faulted f e => exact e ▸ .faulted s f
  | read r x _ _ e => exact .of_same (by simp [e]) (by simp [e]) (by simp [e])
  | write r d _ clocked e keepsGates => exact e ▸ .writeReg clocked keepsGates
  | duty p v _ _ clocked e => exact e ▸ .writeReg clocked (by simp)
  | orw r m ls _ _ e => exact .of_same (by simp [e]) (by simp [e]) (by simp [e])
  | delay _ e => exact .of_same (by simp [e]) (by simp [e]) (by simp [e])
  | tick _ enabled _ e => exact e ▸ .ticked enabled

/-- Every step changes clocked registers alone. -/
theorem step_clockedChange {s t : State} (h : step s = .next t) : ClockedChange s t := by
  obtain ⟨-, ⟨f, rfl⟩ | ⟨l, ls, i, u, -, -, -, hu, -, rfl⟩ | ⟨turn, -, rfl⟩⟩ := step_effect h
  · exact .faulted s f
  · obtain ⟨cfg, stored, mat0, gates⟩ := (exec_effect hu).2.clockedChange
    exact ⟨cfg, by simpa using stored, mat0, by simpa using gates⟩
  · obtain ⟨cfg, stored, mat0, gates⟩ := ClockedChange.ticked (State.tickEnabled_of_ticksNext turn)
    exact ⟨cfg, by simpa using stored, mat0, by simpa using gates⟩

/-! The invariant. -/

/-- The invariant by registers: one that is not clocked holds its reset value, and so does the latch while the timer is
not clocked. -/
theorem State.inv_iff {s : State} : s.Inv ↔ s.cfg.WF ∧ s.ReservedZero ∧
    (∀ r, s.gateOK r = false → s.stored r = (State.resetOf s.cfg).stored r) ∧
    (s.gateTimer = false → s.mat0 = false) := by
  constructor
  · rintro ⟨wf, reserved, timerOff, pinsOff⟩
    refine ⟨wf, reserved, fun r off => ?_, fun off => ?_⟩
    · cases r with
      | clkctrl => simp [State.gateOK] at off
      | pinOd | pinDbg0 | pinDbg1 | pinPwm =>
        obtain ⟨od, dbg0, dbg1, pwm⟩ := pinsOff off
        assumption
      | tcr | tc | mcr | mr0 | mr3 | pwmc =>
        obtain ⟨tcr, tc, mcr, mr0, mr3, pwmc, -⟩ := timerOff off
        assumption
    · obtain ⟨-, -, -, -, -, -, mat0⟩ := timerOff off
      exact mat0
  · rintro ⟨wf, reserved, off, latch⟩
    exact ⟨wf, reserved,
      fun h => ⟨off .tcr h, off .tc h, off .mcr h, off .mr0 h, off .mr3 h, off .pwmc h, latch h⟩,
      fun h => ⟨off .pinOd h, off .pinDbg0 h, off .pinDbg1 h, off .pinPwm h⟩⟩

/-- The reset values have their reserved bits 0 (10_state.md R11, R14). -/
theorem State.resetOf_reservedZero {c : Config} (wf : c.WF) : (State.resetOf c).ReservedZero := by
  obtain ⟨-, ⟨-, od, dbg0, dbg1, pwm⟩, -, -⟩ := wf
  intro r
  cases r with
  | clkctrl => exact and_clkctrl_mask _
  | pinOd => exact od
  | pinDbg0 => exact dbg0
  | pinDbg1 => exact dbg1
  | pinPwm => exact pwm
  | tcr | tc | mcr | mr0 | mr3 | pwmc => exact BitVec.zero_and

theorem State.resetOf_inv {c : Config} (wf : c.WF) : (State.resetOf c).Inv :=
  State.inv_iff.2 ⟨wf, State.resetOf_reservedZero wf, fun _ _ => rfl, fun _ => rfl⟩

/-- Settles O52. -/
theorem resetMeetsTheInvariant : Obligations.ResetMeetsTheInvariant :=
  ⟨fun _ wf => State.resetOf_inv wf, State.resetOf_inv (by decide)⟩

/-- A change of clocked registers alone keeps the invariant: what is not clocked afterwards was not clocked before, and so
is as it was. -/
theorem ClockedChange.inv {s t : State} (h : ClockedChange s t) (hs : s.Inv) : t.Inv := by
  obtain ⟨wf, reserved, off, latch⟩ := State.inv_iff.1 hs
  have wasOff (r : Reg) (ht : t.gateOK r = false) : s.gateOK r = false :=
    Bool.eq_false_iff.2 fun hr => by simp [h.gates r hr] at ht
  refine State.inv_iff.2 ⟨h.cfg ▸ wf, fun r => ?_, fun r ht => ?_, fun ht => ?_⟩
  · obtain same | ⟨-, masked⟩ := h.stored r
    · rw [h.cfg, same]
      exact reserved r
    · rw [h.cfg]
      exact masked
  · obtain same | ⟨clocked, -⟩ := h.stored r
    · rw [h.cfg, same]
      exact off r (wasOff r ht)
    · simp [wasOff r ht] at clocked
  · have timer : s.gateTimer = false := wasOff .tcr ht
    obtain same | clocked := h.mat0
    · rw [same]
      exact latch timer
    · simp [timer] at clocked

/-- Settles O53: a step changes clocked registers alone, to values with reserved bits 0. -/
theorem stepKeepsTheInvariant : Obligations.StepKeepsTheInvariant :=
  fun _ _ hs h => (step_clockedChange h).inv hs

end Sys2Proof.Machine
end

section
/-! PROOFS. The address map: windows, bus addresses and the words of an access there (20_memory.md R27 to R29). -/

namespace Sys2Proof

/-! Bus addresses. -/

/-- A bus address lies in its own window, at its offset (R27). -/
theorem Config.address_sub_base (c : Config) (r : Reg) : c.address r - c.base r = r.off.setWidth 32 := by
  rw [Config.address, BitVec.add_comm, BitVec.add_sub_cancel]

theorem toNat_off_setWidth (off : BitVec 12) : (off.setWidth 32).toNat = off.toNat :=
  BitVec.toNat_setWidth_of_le (by decide)

/-- An address in the window at `a` lies past every window apart from it: neither window reaches the other, not past
0xFFFFFFFF either (log entry 22). -/
theorem Config.WindowsApart.le_sub {a b : Word} (h : Config.WindowsApart a b) (off : BitVec 12) :
    4096 ≤ (a + off.setWidth 32 - b).toNat := by
  obtain ⟨hab, hba⟩ := h
  have hoff := off.isLt
  have hadd := toNat_off_setWidth off
  rw [BitVec.toNat_sub] at hab hba ⊢
  rw [BitVec.toNat_add, hadd]
  omega

/-- A register's bus address leads back to its group and offset (R27). -/
theorem Config.locate_address {c : Config} (wf : c.BasesWF) (r : Reg) :
    c.locate (c.address r) = some (r.blk, r.off) := by
  obtain ⟨-, -, -, clkIocon, clkTmr, ioconTmr⟩ := wf
  have inside : (c.address r - c.base r).toNat < 4096 := by
    rw [Config.address_sub_base, toNat_off_setWidth]
    exact r.off.isLt
  have offset : some (r.blk, (c.address r - c.base r).setWidth 12) = some (r.blk, r.off) := by
    rw [Config.address_sub_base, BitVec.setWidth_setWidth_of_le _ (by decide), BitVec.setWidth_eq]
  have past (b : Word) (h : Config.WindowsApart (c.base r) b) : ¬ (c.address r - b).toNat < 4096 :=
    Nat.not_lt.2 (h.le_sub r.off)
  cases r with
  | clkctrl => exact (if_pos inside).trans offset
  | pinOd | pinDbg0 | pinDbg1 | pinPwm =>
    exact (if_neg (past _ clkIocon.symm)).trans ((if_pos inside).trans offset)
  | tcr | tc | mcr | mr0 | mr3 | pwmc =>
    exact (if_neg (past _ clkTmr.symm)).trans ((if_neg (past _ ioconTmr.symm)).trans ((if_pos inside).trans offset))

/-- A register's bus address is a multiple of 4, wrapped or not (R27, R29). -/
theorem Config.address_aligned {c : Config} (wf : c.BasesWF) (r : Reg) : (c.address r).toNat % 4 = 0 := by
  obtain ⟨clk, iocon, tmr, -⟩ := wf
  have base : (c.base r).toNat % 4 = 0 := by cases r <;> assumption
  have off : r.off.toNat % 4 = 0 := by cases r <;> rfl
  rw [Config.address, BitVec.toNat_add, toNat_off_setWidth]
  omega

/-- No two registers share an address: its group and offset name one register (R42). -/
theorem Config.address_injective {c : Config} (wf : c.BasesWF) {r r' : Reg} (h : c.address r = c.address r') :
    r = r' := by
  have located : some (r.blk, r.off) = some (r'.blk, r'.off) := by
    rw [← Config.locate_address wf, ← Config.locate_address wf, h]
  obtain ⟨blk, off⟩ := Prod.mk.inj (Option.some.inj located)
  have found : regAt r.blk r.off = .ok r := regAt_blk_off r
  rw [blk, off, regAt_blk_off] at found
  exact (Except.ok.inj found).symm

/-- Settles O8: an address lies in its own window, at its offset, and in no other window. -/
theorem busAddressesNameTheirRegister : Obligations.BusAddressesNameTheirRegister := by
  intro c wf
  refine ⟨fun r => ⟨rfl, Config.locate_address wf r, ?_, Config.address_aligned wf r⟩, fun r v => ?_,
    fun _ _ => Config.address_injective wf⟩
  · rw [Config.memReadWord, Config.locate_address wf]
    rfl
  · rw [Config.memWriteWord, Config.locate_address wf]
    rfl

/-! Misaligned offsets. -/

/-- No register stands at a misaligned offset of any group (R29). -/
theorem regAt_misaligned (blk : BitVec 3) {off : BitVec 12} (h : off.extractLsb' 0 2 ≠ 0#2) :
    ∃ e, regAt blk off = .error e := by
  unfold regAt
  by_cases reserved : 3 ≤ blk.toNat
  · exact ⟨_, if_pos reserved⟩
  · exact ⟨_, by rw [if_neg reserved, if_pos h]⟩

/-- Bits 1:0 of OFF are bits 33:32 of the word (R39). -/
theorem txnOff_low (w : Txn) : (txnOff w).extractLsb' 0 2 = w.extractLsb' 32 2 := by
  apply BitVec.eq_of_getLsbD_eq
  intro i hi
  simp [txnOff, hi, show i < 12 by omega]

/-- A word at whose group and offset no register stands is rejected (R46). -/
theorem decode_of_regAt_error {w : Txn} {e : DecodeError} (h : regAt (txnBlk w) (txnOff w) = .error e) :
    decode w = .error e := by
  simp [decode, h]

end Sys2Proof

namespace Sys2Proof.Machine

/-- The bus master's next word, rejected by the decoder, raises F_UNMAPPED (R46). -/
theorem busStep_of_decode_error {s : State} {w : Txn} {ls : List Line} {e : DecodeError} (live : s.fault = none)
    (hp : s.program = .txn w :: ls) (hd : decode w = .error e) :
    busStep s = .next (s.faulted (.unmapped w s.pc)) :=
  busStep_next.2 ⟨_, _, hp, .inr ⟨w, e, by simp [decodeLine, hd], live, rfl⟩⟩

/-- Settles O5: no register stands at a misaligned offset, so the decoder rejects the word. -/
theorem misalignedOffsetRaisesUnmapped : Obligations.MisalignedOffsetRaisesUnmapped := by
  intro w s ls misaligned live hp
  obtain ⟨e, he⟩ := regAt_misaligned (txnBlk w) (txnOff_low w ▸ misaligned)
  exact busStep_of_decode_error live hp (decode_of_regAt_error he)

end Sys2Proof.Machine
end

section
/-! PROOFS. What accesses to a register read and leave (20_memory.md R31 to R33, R38). -/

namespace Sys2Proof.Machine

/-! Nothing left to issue. -/

/-- Settles O13. -/
theorem noAgentEnabledStopsByName : Obligations.NoAgentEnabledStopsByName := by
  intro s live hp off
  rw [step_of_not_ticksNext live (by simp [State.ticksNext, off]), busStep, hp]

/-! Reads. -/

/-- Settles O46. -/
theorem readsHaveNoSideEffect : Obligations.ReadsHaveNoSideEffect := by
  intro r x s live clocked
  rw [exec_rd]
  exact busRead_next.2 ⟨live, .inl ⟨clocked, rfl⟩⟩

/-- Settles O20. -/
theorem orwReadsFirst : Obligations.OrwReadsFirst := fun _ _ _ live =>
  ⟨fun clocked => orwThen_next.2 ⟨live, .inl ⟨clocked, rfl⟩⟩,
   fun unclocked => orwThen_next.2 ⟨live, .inr ⟨unclocked, rfl⟩⟩⟩

/-! Which registers an operation changes. -/

/-- A register that an operation changed is the one it writes: MR0 if it is SET_DUTY, TC if it is TICK. -/
theorem Effect.stored_ne {i : Instr} {s t : State} {r : Reg} (h : Effect i s t) (changed : t.stored r ≠ s.stored r) :
    (∃ d, i = .wr r d) ∨ (r = .mr0 ∧ ∃ p, i = .setDuty p) ∨ (r = .tc ∧ i = .tick) := by
  cases h with
  | faulted f e => simp [e] at changed
  | read r' x _ _ e => simp [e] at changed
  | orw r' m ls _ _ e => simp [e] at changed
  | delay _ e => simp [e] at changed
  | write r' d hi _ e =>
    have own : r = r' := by
      by_contra other
      simp [e, State.stored_writeReg, other] at changed
    exact .inl ⟨d, own ▸ hi⟩
  | duty p v hi _ _ e =>
    have own : r = .mr0 := by
      by_contra other
      simp [e, State.stored_writeReg, other] at changed
    exact .inr (.inl ⟨own, p, hi⟩)
  | tick hi _ _ e =>
    have own : r = .tc := by
      by_contra other
      simp [e, State.ticked_stored, other] at changed
    exact .inr (.inr ⟨own, hi⟩)

/-- Settles O48, from the effects an operation can have. -/
theorem registersChangeByTheirOwnWrite : Obligations.RegistersChangeByTheirOwnWrite := by
  intro i s t r h changed
  obtain ⟨-, effect⟩ := exec_effect h
  exact effect.stored_ne changed

/-! Two reads with ticks between them. -/

/-- A TICK leaves every register but TC as it was, also where it faults (R80, R81). -/
theorem stored_exec_tick {s t : State} (h : exec .tick s = .next t) {r : Reg} (hr : r ≠ .tc) :
    t.stored r = s.stored r := by
  obtain ⟨-, ⟨-, rfl⟩ | ⟨-, rfl⟩⟩ := execTick_next.1 h
  · exact State.faulted_stored s _ r
  · rw [State.ticked_stored, if_neg hr]

/-- Any number of TICKs leaves the parameters and every register but TC as they were. -/
theorem ticks_keep {k : Nat} {s t : State} (h : ticks k s = .next t) :
    t.cfg = s.cfg ∧ ∀ r, r ≠ .tc → t.stored r = s.stored r := by
  induction k generalizing s with
  | zero => rw [next_eq.1 h]; exact ⟨rfl, fun _ _ => rfl⟩
  | succ k ih =>
    obtain ⟨u, hu, ht⟩ := iter_succ.1 h
    obtain ⟨cfg, stored⟩ := ih ht
    exact ⟨cfg.trans (exec_effect hu).2.cfg_eq, fun r hr => (stored r hr).trans (stored_exec_tick hu hr)⟩

/-- A read of a clocked register that answers a next state returned the register (R55, R68). -/
theorem exec_rd_clocked {r : Reg} {x : Word} {s t : State} (clocked : s.gateOK r = true)
    (h : exec (.rd r x) s = .next t) : t = (s.returned (s.readReg r)).retire := by
  rw [exec_rd] at h
  obtain ⟨-, ⟨-, ht⟩ | ⟨unclocked, -⟩⟩ := busRead_next.1 h
  · exact ht
  · simp [clocked] at unclocked

/-- A read after ticks that leave the register alone returns what it returned before them (R33). -/
theorem readReg_eq_of_ticks {r : Reg} {k : Nat} {s t : State} (hr : r ≠ .tc ∨ k = 0) (h : ticks k s = .next t) :
    t.readReg r = s.readReg r := by
  obtain other | rfl := hr
  · obtain ⟨cfg, stored⟩ := ticks_keep h
    rw [State.readReg, cfg, stored r other, State.readReg]
  · rw [next_eq.1 h]

/-- Ticks leave every clocked register clocked. -/
theorem gateOK_eq_of_ticks {k : Nat} {s t : State} (h : ticks k s = .next t) (r : Reg) : t.gateOK r = s.gateOK r := by
  obtain ⟨-, stored⟩ := ticks_keep h
  exact State.gateOK_eq_of_clkctrl (stored .clkctrl (by decide)) r

/-! A write done twice. -/

/-- A write completes exactly where its group is clocked and it passes its own check (R44, R50, R70). -/
theorem exec_wr_completes_iff {r : Reg} {d : Word} {s t : State} :
    exec (.wr r d) s = .next t ∧ t.fault = none ↔
      s.fault = none ∧ s.gateOK r = true ∧ (r = .clkctrl → clearedGates s.clkctrl d = 0#32) ∧
      (r = .tcr → ¬ (d[0] = true ∧ s.mr3 = 0#32)) ∧ t = (s.writeReg r d).retire := by
  constructor
  · rintro ⟨h, completed⟩
    by_cases hclk : r = .clkctrl
    · subst hclk
      obtain ⟨live, ⟨keeps, ht⟩ | ⟨-, rfl⟩⟩ := execWrClkctrl_next.1 h
      · exact ⟨live, rfl, fun _ => keeps, by simp, ht⟩
      · simp at completed
    by_cases htcr : r = .tcr
    · subst htcr
      obtain ⟨live, ⟨clocked, starts, ht⟩ | ⟨-, -, rfl⟩ | ⟨-, rfl⟩⟩ := execWrTcr_next.1 h
      · exact ⟨live, clocked, by simp, fun _ => starts, ht⟩
      · simp at completed
      · simp at completed
    rw [exec_wr d s hclk htcr] at h
    obtain ⟨live, ⟨clocked, ht⟩ | ⟨-, rfl⟩⟩ := busWrite_next.1 h
    · exact ⟨live, clocked, fun e => absurd e hclk, fun e => absurd e htcr, ht⟩
    · simp at completed
  · rintro ⟨live, clocked, keeps, starts, rfl⟩
    refine ⟨?_, by simp [live]⟩
    by_cases hclk : r = .clkctrl
    · subst hclk
      exact execWrClkctrl_next.2 ⟨live, .inl ⟨keeps rfl, rfl⟩⟩
    by_cases htcr : r = .tcr
    · subst htcr
      exact execWrTcr_next.2 ⟨live, .inl ⟨clocked, starts rfl, rfl⟩⟩
    rw [exec_wr d s hclk htcr]
    exact busWrite_next.2 ⟨live, .inl ⟨clocked, rfl⟩⟩

/-- Storing what a register holds changes nothing. -/
theorem State.store_stored (s : State) (r : Reg) : s.store r (s.stored r) = s := by cases r <;> rfl

/-- A second write of the same data changes nothing more. -/
theorem State.writeReg_retire_writeReg (s : State) (r : Reg) (d : Word) :
    (s.writeReg r d).retire.writeReg r d = (s.writeReg r d).retire := by
  have holds : (s.writeReg r d).retire.stored r = d &&& wmask (s.writeReg r d).retire.cfg r := by
    simp [State.stored_writeReg]
  rw [State.writeReg, ← holds, State.store_stored]

/-- The data CLKCTRL holds clears no gate. -/
theorem clearedGates_self (v : Word) : clearedGates v v = 0#32 := by
  simpa using clearedGates_or v v

/-- A write that completed completes again, and stores what the register holds. -/
theorem exec_wr_again {r : Reg} {d : Word} {s u : State} (h : exec (.wr r d) s = .next u) (completed : u.fault = none) :
    exec (.wr r d) u = .next u.retire := by
  obtain ⟨-, clocked, keeps, starts, rfl⟩ := exec_wr_completes_iff.1 ⟨h, completed⟩
  have stillClocked : (s.writeReg r d).retire.gateOK r = true := by simpa using State.gateOK_writeReg keeps clocked
  have clearsNone : r = .clkctrl → clearedGates (s.writeReg r d).retire.clkctrl d = 0#32 := by
    rintro rfl
    exact (congrArg (clearedGates · d) (and_clkctrl_mask d)).trans (clearedGates_self d)
  have hasPeriod : r = .tcr → ¬ (d[0] = true ∧ (s.writeReg r d).retire.mr3 = 0#32) := by
    rintro rfl
    exact starts rfl
  obtain ⟨again, -⟩ := exec_wr_completes_iff.2 ⟨completed, stillClocked, clearsNone, hasPeriod, rfl⟩
  rwa [State.writeReg_retire_writeReg] at again

/-- Settles O47: ticks leave what the second read returns as it was, and a completed write meets its checks again. -/
theorem repeatedAccessesAgree : Obligations.RepeatedAccessesAgree := by
  refine ⟨fun r x y k s u v t hr clocked first between second => ?_, fun r d s u => exec_wr_again⟩
  have hu := exec_rd_clocked clocked first
  have still : v.gateOK r = true := by simpa [gateOK_eq_of_ticks between, hu] using clocked
  have same : v.readReg r = s.readReg r := by simp [readReg_eq_of_ticks hr between, hu]
  simp [exec_rd_clocked still second, hu, same]

end Sys2Proof.Machine
end

section
/-! PROOFS. The encoding: transaction words, program lines and assembler lines (30_encoding.md R39 to R48). -/

namespace Sys2Proof

/-! The operations by kind: a read, a write, a macro or TICK. -/

/-- A case split over the operations that takes the eleven reads together, and the eleven writes (R40). -/
theorem Instr.kindCases {P : Instr → Prop} (rd : ∀ r x, P (.rd r x)) (wr : ∀ r d, P (.wr r d))
    (orw : ∀ r m, P (.orw r m)) (configurePins : P .configurePins) (initPwm : P .initPwm)
    (setDuty : ∀ p, P (.setDuty p)) (delay : P .delay) (tick : P .tick) (i : Instr) : P i := by
  cases i with
  | rdClkctrl x => exact rd .clkctrl x
  | rdPinOd x => exact rd .pinOd x
  | rdPinDbg0 x => exact rd .pinDbg0 x
  | rdPinDbg1 x => exact rd .pinDbg1 x
  | rdPinPwm x => exact rd .pinPwm x
  | rdTcr x => exact rd .tcr x
  | rdTc x => exact rd .tc x
  | rdMcr x => exact rd .mcr x
  | rdMr0 x => exact rd .mr0 x
  | rdMr3 x => exact rd .mr3 x
  | rdPwmc x => exact rd .pwmc x
  | wrClkctrl d => exact wr .clkctrl d
  | wrPinOd d => exact wr .pinOd d
  | wrPinDbg0 d => exact wr .pinDbg0 d
  | wrPinDbg1 d => exact wr .pinDbg1 d
  | wrPinPwm d => exact wr .pinPwm d
  | wrTcr d => exact wr .tcr d
  | wrTc d => exact wr .tc d
  | wrMcr d => exact wr .mcr d
  | wrMr0 d => exact wr .mr0 d
  | wrMr3 d => exact wr .mr3 d
  | wrPwmc d => exact wr .pwmc d
  | orw r m => exact orw r m
  | configurePins => exact configurePins
  | initPwm => exact initPwm
  | setDuty p => exact setDuty p
  | delay => exact delay
  | tick => exact tick

@[simp] theorem encode_rd (r : Reg) (x : Word) : encode (.rd r x) = [rdWord r x] := by cases r <;> rfl
@[simp] theorem encode_wr (r : Reg) (d : Word) : encode (.wr r d) = [wrWord r d] := by cases r <;> rfl

@[simp] theorem Instr.toLine_rd (r : Reg) (x : Word) : (Instr.rd r x).toLine = some (.txn (rdWord r x)) := by
  cases r <;> rfl

@[simp] theorem Instr.toLine_wr (r : Reg) (d : Word) : (Instr.wr r d).toLine = some (.txn (wrWord r d)) := by
  cases r <;> rfl

@[simp] theorem Instr.wf_rd (r : Reg) (x : Word) : (Instr.rd r x).wf = true := by cases r <;> rfl
@[simp] theorem Instr.wf_wr (r : Reg) (d : Word) : (Instr.wr r d).wf = true := by cases r <;> rfl

/-- SET_DUTY's percent is a signed 32-bit number (R90). -/
theorem Instr.wf_setDuty {p : Int} : (Instr.setDuty p).wf = true ↔ -(2 ^ 31) ≤ p ∧ p < 2 ^ 31 :=
  decide_eq_true_iff

/-! The decoder and the encoder are inverse to each other. -/

/-- An operation has a transaction word exactly where its program line is that word (R48). -/
theorem encode_eq_singleton_iff {i : Instr} {w : Txn} : encode i = [w] ↔ i.toLine = some (.txn w) := by
  cases i using Instr.kindCases with
  | rd r x => simp
  | wr r d => simp
  | orw | configurePins | initPwm | setDuty | delay | tick => simp [encode, Instr.toLine]

/-- A word the decoder accepts is a read's or a write's word, and decodes to that read or write (R40). -/
theorem decode_ok_cases {w : Txn} {i : Instr} (h : decode w = .ok i) :
    (∃ r x, w = rdWord r x ∧ i = .rd r x) ∨ (∃ r d, w = wrWord r d ∧ i = .wr r d) := by
  obtain ⟨r, word, op⟩ := decode_ok h
  cases write : txnW w with
  | false => exact .inl ⟨r, txnData w, by rwa [write] at word, by simpa [write] using op⟩
  | true => exact .inr ⟨r, txnData w, by rwa [write] at word, by simpa [write] using op⟩

/-- The decoder reads an operation from exactly the word the encoder writes for it (R39 to R44). -/
theorem decode_eq_ok_iff {w : Txn} {i : Instr} : decode w = .ok i ↔ encode i = [w] := by
  constructor
  · intro h
    obtain ⟨r, x, rfl, rfl⟩ | ⟨r, d, rfl, rfl⟩ := decode_ok_cases h
    · exact encode_rd r x
    · exact encode_wr r d
  · intro h
    cases i using Instr.kindCases with
    | rd r x =>
      obtain rfl : rdWord r x = w := by simpa using h
      exact decode_rdWord r x
    | wr r d =>
      obtain rfl : wrWord r d = w := by simpa using h
      exact decode_wrWord r d
    | orw | configurePins | initPwm | setDuty | delay | tick => simp [encode] at h

/-- What the decoder reads from a word has its operands in range: a word holds no percent. -/
theorem wf_of_decode {w : Txn} {i : Instr} (h : decode w = .ok i) : i.wf = true := by
  obtain ⟨r, x, -, rfl⟩ | ⟨r, d, -, rfl⟩ := decode_ok_cases h
  · exact Instr.wf_rd r x
  · exact Instr.wf_wr r d

theorem decodeLine_txn_eq_ok_iff {w : Txn} {i : Instr} : decodeLine (.txn w) = .ok i ↔ decode w = .ok i := by
  cases h : decode w <;> simp [decodeLine, h]

@[simp] theorem decodeLine_rdWord (r : Reg) (x : Word) : decodeLine (.txn (rdWord r x)) = .ok (.rd r x) :=
  decodeLine_txn_eq_ok_iff.2 (decode_rdWord r x)

/-- The line of a well-formed operation decodes to it: of SET_DUTY, because its percent fits the line's 32 bits. -/
theorem decodeLine_of_toLine {i : Instr} {l : Line} (wf : i.wf = true) (h : i.toLine = some l) :
    decodeLine l = .ok i := by
  cases i using Instr.kindCases with
  | rd r x =>
    obtain rfl : Line.txn (rdWord r x) = l := by simpa using h
    exact decodeLine_rdWord r x
  | wr r d =>
    obtain rfl : Line.txn (wrWord r d) = l := by simpa using h
    exact Machine.decodeLine_wrWord r d
  | setDuty p =>
    obtain ⟨low, high⟩ := Instr.wf_setDuty.1 wf
    obtain rfl := Option.some.inj h
    have percent : (BitVec.ofInt 32 p).toInt = p := BitVec.toInt_ofInt_eq_self (by decide) low high
    exact congrArg (fun p => Except.ok (Instr.setDuty p)) percent
  | orw | configurePins | initPwm | delay =>
    obtain rfl := Option.some.inj h
    rfl
  | tick => simp [Instr.toLine] at h

/-- What a line decodes to is well formed and has that line; a SET_DUTY's percent is any of the line's 32 bits, signed. -/
theorem toLine_of_decodeLine {l : Line} {i : Instr} (h : decodeLine l = .ok i) : i.wf = true ∧ i.toLine = some l := by
  cases l with
  | txn w =>
    have hd := decodeLine_txn_eq_ok_iff.1 h
    exact ⟨wf_of_decode hd, encode_eq_singleton_iff.1 (decode_eq_ok_iff.1 hd)⟩
  | setDuty p =>
    obtain rfl := Except.ok.inj h
    exact ⟨Instr.wf_setDuty.2 ⟨p.le_toInt, p.toInt_lt⟩, congrArg (fun p => some (Line.setDuty p)) BitVec.ofInt_toInt⟩
  | orw | configurePins | initPwm | delay =>
    obtain rfl := Except.ok.inj h
    exact ⟨rfl, rfl⟩

/-- Every operation of the bus master has a program line; TICK is the tick agent's (R48). -/
theorem Instr.exists_toLine {i : Instr} (h : i ≠ .tick) : ∃ l, i.toLine = some l := by
  cases i using Instr.kindCases with
  | rd r x => exact ⟨_, Instr.toLine_rd r x⟩
  | wr r d => exact ⟨_, Instr.toLine_wr r d⟩
  | orw | configurePins | initPwm | setDuty | delay => exact ⟨_, rfl⟩
  | tick => exact absurd rfl h

/-- Settles O2. -/
theorem decodeInvertsEncode : Obligations.DecodeInvertsEncode :=
  ⟨fun _ wf _ => decodeLine_of_toLine wf,
   fun _ _ h => ⟨decode_eq_ok_iff.2 h, encode_eq_singleton_iff.1 h⟩,
   fun _ => Instr.exists_toLine⟩

/-- Settles O3. -/
theorem encodeInvertsDecode : Obligations.EncodeInvertsDecode :=
  ⟨fun _ _ h => ⟨decode_eq_ok_iff.1 h, wf_of_decode h⟩, fun _ _ => toLine_of_decodeLine⟩

/-! Words and lines written out. -/

/-- Settles O1: each word is the read's or the write's word of its register and DATA. -/
theorem headerWordsDecode : Obligations.HeaderWordsDecode :=
  ⟨decode_rdWord .clkctrl 0#32, decode_wrWord .clkctrl 0x1005F#32, decode_rdWord .pinDbg0 0#32,
   decode_wrWord .pinPwm 2#32, decode_rdWord .tc 0#32, decode_wrWord .mr3 1600#32, decode_wrWord .mr0 800#32⟩

/-- Settles O7. -/
theorem assemblerLinesDecode : Obligations.AssemblerLinesDecode :=
  ⟨fun r => decodeLine_rdWord r 0#32, Machine.decodeLine_wrWord, fun _ _ => rfl, fun _ => rfl, rfl, rfl, rfl⟩

/-- Settles O6: a read of a clocked register does the same whatever its DATA. -/
theorem readsIgnoreTheirData : Obligations.ReadsIgnoreTheirData :=
  fun r x y => ⟨decode_rdWord r x, rfl, fun s live clocked =>
    (Machine.readsHaveNoSideEffect r x s live clocked).trans (Machine.readsHaveNoSideEffect r y s live clocked).symm⟩

/-! Illegal words. -/

/-- The pairs (BLK, OFF) of the register map (R42). -/
def listedPairs : List (BitVec 3 × BitVec 12) := allRegs.map fun r => (r.blk, r.off)

theorem mem_listedPairs_iff {blk : BitVec 3} {off : BitVec 12} :
    (blk, off) ∈ listedPairs ↔ ∃ r : Reg, r.blk = blk ∧ r.off = off := by
  have all (r : Reg) : r ∈ allRegs := by cases r <;> decide
  simp [listedPairs, all]

/-- No register stands at exactly the pairs that are not listed (R42, R46). -/
theorem regAt_error_iff {blk : BitVec 3} {off : BitVec 12} :
    (∃ e, regAt blk off = .error e) ↔ (blk, off) ∉ listedPairs := by
  rw [mem_listedPairs_iff]
  constructor
  · rintro ⟨e, he⟩ ⟨r, rfl, rfl⟩
    simp at he
  · intro unlisted
    cases h : regAt blk off with
    | error e => exact ⟨e, rfl⟩
    | ok r => exact absurd ⟨r, regAt_ok h⟩ unlisted

/-- The decoder rejects a word exactly where no register stands at its group and offset (R46). -/
theorem decode_error_iff {w : Txn} :
    (∃ e, decode w = .error e) ↔ ∃ e, regAt (txnBlk w) (txnOff w) = .error e := by
  cases h : regAt (txnBlk w) (txnOff w) <;> simp [decode, h]

/-- No register stands in a reserved group (R41). -/
theorem regAt_reserved {blk : BitVec 3} (off : BitVec 12) (h : 3 ≤ blk.toNat) : ∃ e, regAt blk off = .error e :=
  ⟨_, if_pos h⟩

/-- Settles O4: a reserved BLK and a misaligned OFF stand in no listed pair, and the unlisted pairs are the rest. -/
theorem illegalWordsRaiseUnmapped : Obligations.IllegalWordsRaiseUnmapped := by
  refine fun w => ⟨decode_error_iff.trans ⟨fun h => .inr (.inr (regAt_error_iff.1 h)), ?_⟩, ?_⟩
  · rintro (reserved | misaligned | unlisted)
    · exact regAt_reserved _ reserved
    · exact regAt_misaligned _ (txnOff_low w ▸ misaligned)
    · exact regAt_error_iff.2 unlisted
  · intro s ls e rejected live hp
    have raised := Machine.busStep_of_decode_error live hp rejected
    exact ⟨raised, fun turn => (Machine.step_of_not_ticksNext live turn).trans raised⟩

end Sys2Proof

namespace Sys2Proof.Machine

/-! Macros. -/

/-- A macro that begins with an ORW of CLKCTRL reads it in every live state: the CLK group is always clocked, and the
register has no reserved bit (R49, R51). -/
theorem orwThen_clkctrl {s : State} (live : s.fault = none) (m : Word) (rest : List Line) :
    orwThen .clkctrl m rest s =
      .next ((s.returned s.clkctrl).retireTo (.txn (wrWord .clkctrl (s.clkctrl ||| m)) :: rest)) := by
  have read : s.readReg .clkctrl = s.clkctrl := and_clkctrl_mask _
  refine orwThen_next.2 ⟨live, .inl ⟨rfl, ?_⟩⟩
  rw [read]

/-- Settles O25. -/
theorem configurePinsStarts : Obligations.ConfigurePinsStarts :=
  fun s live => orwThen_clkctrl live 0x00010040#32 (configurePinsRest s.cfg)

/-- Settles O36. -/
theorem initPwmStarts : Obligations.InitPwmStarts :=
  fun s live => orwThen_clkctrl live 0x00000080#32 (initPwmRest s.cfg)

/-- Settles O42. -/
theorem delayChangesNothing : Obligations.DelayChangesNothing :=
  fun _ live => execDelay_next.2 ⟨live, rfl⟩

end Sys2Proof.Machine
end

section
/-! PROOFS. The clock gate: CLKCTRL and its gate bits, ORW, and CONFIGURE_PINS, whose transactions are ORWs and writes
(40_clock_gate.md R49 to R51, R54, 41_pin_function.md R66). -/

namespace Sys2Proof.Machine

open Host (Outcome)

/-! CLKCTRL. -/

/-- The read of any register, in the one form that R49, R55 and R68 give it. -/
theorem readsAs_rd (r : Reg) {clocked : State → Prop} (gate : ∀ s : State, clocked s ↔ s.gateOK r = true) :
    ReadsAs (.rd r) (header false r) clocked (fun s => s.readReg r) := by
  intro x
  refine ⟨decode_rdWord r x, fun s live => ⟨fun on => ?_, fun off => ?_⟩⟩
  · exact readsHaveNoSideEffect r x s live ((gate s).1 on)
  · rw [exec_rd]
    exact busRead_next.2 ⟨live, .inr ⟨Bool.eq_false_iff.2 (mt (gate s).2 off), rfl⟩⟩

@[simp] theorem State.readReg_clkctrl (s : State) : s.readReg .clkctrl = s.clkctrl := and_clkctrl_mask s.clkctrl

/-- Settles O18: the read of a register whose group is always clocked and that has no reserved bit. -/
theorem rdClkctrlReturnsTheRegister : Obligations.RdClkctrlReturnsTheRegister := by
  have always (s : State) : True ↔ s.gateOK .clkctrl = true := iff_of_true trivial rfl
  have reads := readsAs_rd .clkctrl always
  simp only [State.readReg_clkctrl] at reads
  exact reads

/-- Settles O19. -/
theorem wrClkctrlStoresOrRefusesClearing : Obligations.WrClkctrlStoresOrRefusesClearing := by
  refine fun d => ⟨decode_wrWord .clkctrl d, fun s live => ⟨fun keeps => ?_, fun clears => ?_⟩⟩
  · have whole : (s.writeReg .clkctrl d).retire =
        { s with clkctrl := d, pc := s.pc + 1, program := s.program.tail } := by
      rw [State.writeReg, wmask, and_clkctrl_mask]
      rfl
    exact execWrClkctrl_next.2 ⟨live, .inl ⟨keeps, whole.symm⟩⟩
  · exact execWrClkctrl_next.2 ⟨live, .inr ⟨clears, rfl⟩⟩

/-! The gate bits. -/

/-- No operation clears a gate bit: the only change to CLKCTRL is a write that passed R50's check. -/
theorem Effect.clearedGates_eq {i : Instr} {s t : State} (h : Effect i s t) :
    clearedGates s.clkctrl t.clkctrl = 0#32 := by
  have unchanged : t.clkctrl = s.clkctrl → clearedGates s.clkctrl t.clkctrl = 0#32 :=
    fun same => same ▸ clearedGates_self s.clkctrl
  cases h with
  | write r d _ _ e keepsGates =>
    have stored : t.clkctrl = if Reg.clkctrl = r then d &&& wmask s.cfg r else s.clkctrl := by
      rw [e]
      exact State.stored_writeReg s r .clkctrl d
    split at stored
    · next own =>
      subst own
      rw [stored, wmask, and_clkctrl_mask]
      exact keepsGates rfl
    · exact unchanged stored
  | faulted f e => exact unchanged (by simp [e])
  | read r x _ _ e => exact unchanged (by simp [e])
  | duty p v _ _ _ e => exact unchanged (by simp [e, State.writeReg])
  | orw r m ls _ _ e => exact unchanged (by simp [e])
  | delay _ e => exact unchanged (by simp [e])
  | tick _ _ _ e => exact unchanged (by simp [e])

theorem step_clearedGates_eq {s t : State} (h : step s = .next t) : clearedGates s.clkctrl t.clkctrl = 0#32 := by
  obtain ⟨-, ⟨f, rfl⟩ | ⟨l, ls, i, u, -, -, -, hu, -, rfl⟩ | ⟨-, -, rfl⟩⟩ := step_effect h
  · exact clearedGates_self s.clkctrl
  · exact (exec_effect hu).2.clearedGates_eq
  · exact clearedGates_self s.clkctrl

/-- Settles O22: no step and no operation clears a gate, and bits 6, 7 and 16 are the gates. -/
theorem gateBitsStaySet : Obligations.GateBitsStaySet := by
  intro s t h
  have cleared : clearedGates s.clkctrl t.clkctrl = 0#32 := by
    obtain hstep | ⟨i, hexec⟩ := h
    · exact step_clearedGates_eq hstep
    · exact (exec_effect hexec).2.clearedGates_eq
  have stays {n : Nat} (gate : gateMask.getLsbD n = true) := getLsbD_of_clearedGates cleared gate
  exact ⟨stays (n := 6) (by decide), stays (n := 7) (by decide), stays (n := 16) (by decide)⟩

/-! ORW: a read, then a write (R51). -/

/-- The state after the read of an ORW: its write comes next, and then the lines `rest`. -/
def State.orwRead (s : State) (r : Reg) (m : Word) (rest : List Line) : State :=
  ((s.returned (s.readReg r)).retireTo (.txn (wrWord r (s.readReg r ||| m)) :: rest)).rearm

/-- The state after both transactions of an ORW. -/
def State.orwDone (s : State) (r : Reg) (m : Word) (rest : List Line) : State :=
  (s.orwRead r m rest).issued r (s.readReg r ||| m)

@[simp] theorem State.orwRead_stored (s : State) (r r' : Reg) (m : Word) (rest : List Line) :
    (s.orwRead r m rest).stored r' = s.stored r' := by
  simp [State.orwRead]

@[simp] theorem State.orwRead_gateOK (s : State) (r r' : Reg) (m : Word) (rest : List Line) :
    (s.orwRead r m rest).gateOK r' = s.gateOK r' := by
  simp [State.orwRead]

@[simp] theorem State.orwRead_cfg (s : State) (r : Reg) (m : Word) (rest : List Line) :
    (s.orwRead r m rest).cfg = s.cfg := rfl
@[simp] theorem State.orwRead_fault (s : State) (r : Reg) (m : Word) (rest : List Line) :
    (s.orwRead r m rest).fault = s.fault := rfl
@[simp] theorem State.orwRead_pc (s : State) (r : Reg) (m : Word) (rest : List Line) :
    (s.orwRead r m rest).pc = s.pc + 1 := rfl
@[simp] theorem State.orwRead_mr3 (s : State) (r : Reg) (m : Word) (rest : List Line) :
    (s.orwRead r m rest).mr3 = s.mr3 := rfl
@[simp] theorem State.orwRead_program (s : State) (r : Reg) (m : Word) (rest : List Line) :
    (s.orwRead r m rest).program = .txn (wrWord r (s.readReg r ||| m)) :: (rest ++ s.program.tail) := rfl

/-- Reserved bits that a read returns as 0 stay out of the write, so ORW stores the register's own value OR the mask. -/
theorem masked_or_masked (v m k : Word) : (v &&& k ||| m) &&& k = (v ||| m) &&& k := by
  apply BitVec.eq_of_getLsbD_eq
  intro i hi
  cases hk : k.getLsbD i <;> simp [hk]

@[simp] theorem State.orwDone_stored (s : State) (r r' : Reg) (m : Word) (rest : List Line) :
    (s.orwDone r m rest).stored r' = if r' = r then (s.stored r ||| m) &&& wmask s.cfg r else s.stored r' := by
  simp [State.orwDone, State.readReg, masked_or_masked]

@[simp] theorem State.orwDone_cfg (s : State) (r : Reg) (m : Word) (rest : List Line) :
    (s.orwDone r m rest).cfg = s.cfg := by
  simp [State.orwDone]
@[simp] theorem State.orwDone_fault (s : State) (r : Reg) (m : Word) (rest : List Line) :
    (s.orwDone r m rest).fault = s.fault := by
  simp [State.orwDone]
@[simp] theorem State.orwDone_pc (s : State) (r : Reg) (m : Word) (rest : List Line) :
    (s.orwDone r m rest).pc = s.pc + 2 := by
  simp [State.orwDone]
@[simp] theorem State.orwDone_program (s : State) (r : Reg) (m : Word) (rest : List Line) :
    (s.orwDone r m rest).program = rest ++ s.program.tail := by
  simp [State.orwDone]
@[simp] theorem State.orwDone_mat0 (s : State) (r : Reg) (m : Word) (rest : List Line) :
    (s.orwDone r m rest).mat0 = s.mat0 := by
  simp [State.orwDone, State.orwRead, State.issued]
@[simp] theorem State.orwDone_trace (s : State) (r : Reg) (m : Word) (rest : List Line) :
    (s.orwDone r m rest).trace = s.trace := by
  simp [State.orwDone, State.orwRead, State.issued]

/-- A live bus master's step whose instruction begins with the read of an ORW of a clocked register. -/
theorem busStep_orwThen {s : State} {l : Line} {ls rest : List Line} {i : Instr} {r : Reg} {m : Word}
    (hp : s.program = l :: ls) (hd : decodeLine l = .ok i) (hi : exec i s = orwThen r m rest s)
    (live : s.fault = none) (clocked : s.gateOK r = true) : busStep s = .next (s.orwRead r m rest) := by
  rw [busStep_of_decodeLine hp hd, hi]
  exact settle_next.2 ⟨_, orwThen_next.2 ⟨live, .inl ⟨clocked, rfl⟩⟩, .inl ⟨live, rfl⟩⟩

/-- A live bus master's step that writes a clocked register and passes the register's own check (R50, R70). Of WR_TCR
this asks no more than R70 does, where `WritePasses` asks for a period. -/
theorem busStep_wr_completes {s : State} {r : Reg} {d : Word} {ls : List Line}
    (hp : s.program = .txn (wrWord r d) :: ls) (live : s.fault = none) (clocked : s.gateOK r = true)
    (keepsGates : r = .clkctrl → clearedGates s.clkctrl d = 0#32)
    (starts : r = .tcr → ¬ (d[0] = true ∧ s.mr3 = 0#32)) : busStep s = .next (s.issued r d) := by
  obtain ⟨written, completed⟩ := exec_wr_completes_iff.2 ⟨live, clocked, keepsGates, starts, rfl⟩
  rw [busStep_of_decodeLine hp (decodeLine_wrWord r d)]
  exact settle_next.2 ⟨_, written, .inl ⟨completed, rfl⟩⟩

/-- Both transactions of an ORW of a clocked register. Its write clears no gate bit, so it completes unless it starts a
counter whose period is 0 (R51). -/
theorem busRun_orwThen {s : State} {l : Line} {ls rest : List Line} {i : Instr} {r : Reg} {m : Word}
    (hp : s.program = l :: ls) (hd : decodeLine l = .ok i) (hi : exec i s = orwThen r m rest s)
    (live : s.fault = none) (clocked : s.gateOK r = true)
    (starts : r = .tcr → ¬ ((s.tcr ||| m)[0] = true ∧ s.mr3 = 0#32)) :
    busRun 2 s = .next (s.orwDone r m rest) := by
  have write : busStep (s.orwRead r m rest) = .next (s.orwDone r m rest) := by
    refine busStep_wr_completes rfl live (by simpa using clocked) ?_ ?_
    · rintro rfl
      rw [State.readReg_clkctrl]
      exact clearedGates_or s.clkctrl m
    · rintro rfl
      simpa [State.readReg, State.stored, wmask] using starts rfl
  exact iter_succ.2 ⟨_, busStep_orwThen hp hd hi live clocked, iter_succ.2 ⟨_, write, rfl⟩⟩

/-- The write of an ORW of TCR that would start a counter whose period is 0 raises F_ZERO_PERIOD (R51, R70). -/
theorem busRun_orw_tcr_faults {s : State} {m : Word} {ls : List Line} (hp : s.program = .orw .tcr m :: ls)
    (live : s.fault = none) (clocked : s.gateOK .tcr = true) (starts : (s.tcr ||| m)[0] = true) (zero : s.mr3 = 0#32) :
    busRun 2 s = .next ((s.orwRead .tcr m []).faulted
      (.zeroPeriod (wrWord .tcr (s.readReg .tcr ||| m)) (s.pc + 1))) := by
  have cen : (s.readReg .tcr ||| m)[0] = true := by simpa [State.readReg, State.stored, wmask] using starts
  have write : exec (.wr .tcr (s.readReg .tcr ||| m)) (s.orwRead .tcr m []) = .next
      ((s.orwRead .tcr m []).faulted (.zeroPeriod (wrWord .tcr (s.readReg .tcr ||| m)) (s.pc + 1))) :=
    execWrTcr_next.2 ⟨live, .inr (.inl ⟨clocked, ⟨cen, zero⟩, rfl⟩)⟩
  refine iter_succ.2 ⟨_, busStep_orwThen hp rfl rfl live clocked, iter_succ.2 ⟨_, ?_, rfl⟩⟩
  rw [busStep_of_decodeLine rfl (decodeLine_wrWord _ _)]
  exact settle_next.2 ⟨_, write, .inr ⟨by simp, rfl⟩⟩

/-- Settles O21. -/
theorem orwStoresValueOrMask : Obligations.OrwStoresValueOrMask := by
  intro r m s ls live clocked hp
  refine ⟨fun starts => ?_, ?_⟩
  · have run := busRun_orwThen hp (i := .orw r m) rfl rfl live clocked (fun hr h => starts ⟨hr, h⟩)
    exact ⟨_, run, by simp [live], by simp, by simp [hp], by simp, fun r' other => by simp [other],
      by simp, by simp, by simp⟩
  · rintro rfl starts zero
    exact ⟨_, busRun_orw_tcr_faults hp live clocked starts zero, rfl, rfl, rfl⟩

/-! CONFIGURE_PINS (R66): ORWs and writes of the pin registers, after an ORW that turns their gates on. -/

/-- `j` steps and then `k` more are `j + k` steps. -/
theorem iter_add {f : State → Outcome State Fault Refusal} {j k : Nat} {s u t : State} (first : iter f j s = .next u)
    (second : iter f k u = .next t) : iter f (j + k) s = .next t := by
  induction j generalizing s with
  | zero =>
    obtain rfl := next_eq.1 first
    rwa [Nat.zero_add]
  | succ j ih =>
    obtain ⟨v, hv, hu⟩ := iter_succ.1 first
    rw [Nat.succ_add]
    exact iter_succ.2 ⟨v, hv, ih hu⟩

/-- CLKCTRL and TCR, whose writes have a check of their own (R50, R70), are no pin registers. -/
theorem ne_of_blk_iocon {r : Reg} (pin : r.blk = 1#3) : r ≠ .clkctrl ∧ r ≠ .tcr := by
  constructor <;> rintro rfl <;> exact absurd pin (by decide)

/-- A live bus master with the lines `ls` to issue, while the pin registers, the IOCON group of R41, are clocked. -/
structure PinsReady (s : State) (ls : List Line) : Prop where
  live : s.fault = none
  clocked (r : Reg) : r.blk = 1#3 → s.gateOK r = true
  program : s.program = ls

/-- A change of a pin register that takes the bus master one line on leaves it ready for the next line. -/
theorem PinsReady.next {s t : State} {r : Reg} {l : Line} {ls : List Line} (h : PinsReady s (l :: ls))
    (pin : r.blk = 1#3) (live : t.fault = s.fault) (program : t.program = s.program.tail)
    (others : ∀ r', r' ≠ r → t.stored r' = s.stored r') : PinsReady t ls where
  live := live.trans h.live
  clocked r' hr' := by
    obtain ⟨notGates, -⟩ := ne_of_blk_iocon pin
    rw [State.gateOK_eq_of_clkctrl (others .clkctrl notGates.symm)]
    exact h.clocked r' hr'
  program := by rw [program, h.program, List.tail_cons]

/-- An ORW of a pin register. -/
theorem PinsReady.orw {s : State} {r : Reg} {m : Word} {ls : List Line} (h : PinsReady s (.orw r m :: ls))
    (pin : r.blk = 1#3) : busRun 2 s = .next (s.orwDone r m []) ∧ PinsReady (s.orwDone r m []) ls := by
  obtain ⟨-, notTcr⟩ := ne_of_blk_iocon pin
  exact ⟨busRun_orwThen h.program (i := .orw r m) rfl rfl h.live (h.clocked r pin) (absurd · notTcr),
    h.next pin (by simp) (by simp) fun r' other => by simp [other]⟩

/-- A write of a pin register. -/
theorem PinsReady.wr {s : State} {r : Reg} {d : Word} {ls : List Line} (h : PinsReady s (.txn (wrWord r d) :: ls))
    (pin : r.blk = 1#3) : busRun 1 s = .next (s.issued r d) ∧ PinsReady (s.issued r d) ls := by
  obtain ⟨notGates, notTcr⟩ := ne_of_blk_iocon pin
  have write : busStep s = .next (s.issued r d) :=
    busStep_wr_completes h.program h.live (h.clocked r pin) (absurd · notGates) (absurd · notTcr)
  exact ⟨iter_succ.2 ⟨_, write, rfl⟩, h.next pin (by simp) (by simp) fun r' other => by simp [other]⟩

/-- The ORW of CLKCTRL that CONFIGURE_PINS begins with turns the pins' gates on (R66, step 1). -/
theorem busRun_configurePins_gates {s : State} {ls : List Line} (live : s.fault = none)
    (hp : s.program = .configurePins :: ls) :
    busRun 2 s = .next (s.orwDone .clkctrl 0x00010040#32 (configurePinsRest s.cfg)) ∧
    PinsReady (s.orwDone .clkctrl 0x00010040#32 (configurePinsRest s.cfg)) (configurePinsRest s.cfg ++ ls) := by
  refine ⟨busRun_orwThen hp (i := .configurePins) rfl rfl live rfl (by simp), by simp [live], fun r pin => ?_,
    by simp [hp]⟩
  have clkctrl : (s.orwDone .clkctrl 0x00010040#32 (configurePinsRest s.cfg)).clkctrl = s.clkctrl ||| 0x00010040#32 :=
    (State.orwDone_stored s .clkctrl .clkctrl _ _).trans (and_clkctrl_mask _)
  have gate : (s.orwDone .clkctrl 0x00010040#32 (configurePinsRest s.cfg)).pinGateOK = true := by
    simp [State.pinGateOK, State.gateIocon, State.gateGpio, clkctrl]
  cases r with
  | pinOd | pinDbg0 | pinDbg1 | pinPwm => exact gate
  | clkctrl | tcr | tc | mcr | mr0 | mr3 | pwmc => exact absurd pin (by decide)

/-- The FUNC field of a pin register has no reserved bit (10_state.md R12). -/
theorem funcMask_masked (f : BitVec 3) : funcMask f &&& pinMask = funcMask f := by
  revert f
  decide

/-- Settles O26: R66's four steps one after the other, and what they leave together. -/
theorem configurePinsCompletes : Obligations.ConfigurePinsCompletes := by
  intro s ls live hp
  obtain ⟨gates, ready⟩ := busRun_configurePins_gates live hp
  obtain ⟨od, ready⟩ := ready.orw (r := .pinOd) rfl
  obtain ⟨dbg0, ready⟩ := ready.wr (r := .pinDbg0) rfl
  obtain ⟨dbg1, ready⟩ := ready.wr (r := .pinDbg1) rfl
  obtain ⟨pwm, -⟩ := ready.orw (r := .pinPwm) rfl
  refine (iter_add gates (iter_add od (iter_add dbg0 (iter_add dbg1 pwm)))).trans (congrArg Outcome.next ?_)
  have func (f : BitVec 3) : f.setWidth 32 &&& 0x0000043F#32 = f.setWidth 32 := funcMask_masked f
  simp [State.orwDone, State.orwRead, State.issued, State.readReg, State.stored, State.writeReg, State.retire,
    State.retireTo, State.returned, State.rearm, wmask, configurePinsRest, funcMask, pinMask, func, and_clkctrl_mask,
    hp]

end Sys2Proof.Machine
end

section
/-! PROOFS. The pin-function selector: its reads and writes, CONFIGURE_PINS from reset, and the pin fields without an
effect (41_pin_function.md R55 to R67). -/

namespace Sys2Proof.Machine

/-! Reads and writes. -/

/-- Both gates the pin registers need (40_clock_gate.md R53), as the statements write them. -/
theorem State.pinsClocked_iff (s : State) : s.PinsClocked ↔ s.pinGateOK = true := by
  rw [State.pinGateOK, Bool.and_eq_true]
  rfl

/-- Settles O23: each pin register's read, by the form that every read has. -/
theorem pinReadsReturnTheRegister : Obligations.PinReadsReturnTheRegister :=
  ⟨readsAs_rd .pinOd State.pinsClocked_iff, readsAs_rd .pinDbg0 State.pinsClocked_iff,
   readsAs_rd .pinDbg1 State.pinsClocked_iff, readsAs_rd .pinPwm State.pinsClocked_iff⟩

/-- The write of a register that has no check of its own, in the one form that R55 and R68 give it. -/
theorem writesAs_wr {r : Reg} (notGates : r ≠ .clkctrl) (notTcr : r ≠ .tcr) {clocked : State → Prop}
    (gate : ∀ s : State, clocked s ↔ s.gateOK r = true) :
    WritesAs (.wr r) (header true r) clocked (fun s d => s.writeReg r d) := by
  refine fun d => ⟨decode_wrWord r d, fun s live => ⟨fun on => ?_, fun off => ?_⟩⟩
  · have done : { s.writeReg r d with pc := s.pc + 1, program := s.program.tail } = (s.writeReg r d).retire := by
      simp [State.retire]
    rw [exec_wr d s notGates notTcr]
    exact busWrite_next.2 ⟨live, .inl ⟨(gate s).1 on, done⟩⟩
  · rw [exec_wr d s notGates notTcr]
    exact busWrite_next.2 ⟨live, .inr ⟨Bool.eq_false_iff.2 (mt (gate s).2 off), rfl⟩⟩

/-- Settles O24: each pin register's write, by the form of a write without a check of its own. -/
theorem pinWritesStoreTheMaskedData : Obligations.PinWritesStoreTheMaskedData :=
  ⟨writesAs_wr (r := .pinOd) (by decide) (by decide) State.pinsClocked_iff,
   writesAs_wr (r := .pinDbg0) (by decide) (by decide) State.pinsClocked_iff,
   writesAs_wr (r := .pinDbg1) (by decide) (by decide) State.pinsClocked_iff,
   writesAs_wr (r := .pinPwm) (by decide) (by decide) State.pinsClocked_iff⟩

/-! CONFIGURE_PINS from reset (R67): the timer's gate stays off, so every step is the bus master's. -/

/-- No step of the bus master clears a gate bit. -/
theorem busStep_clearedGates_eq {s t : State} (h : busStep s = .next t) : clearedGates s.clkctrl t.clkctrl = 0#32 := by
  obtain ⟨-, ⟨f, rfl⟩ | ⟨l, ls, i, u, -, -, hu, -, rfl⟩⟩ := busStep_effect h
  · exact clearedGates_self s.clkctrl
  · exact (exec_effect hu).2.clearedGates_eq

/-- A timer that is gated off after a step of the bus master was gated off before it (R54). -/
theorem State.gateTimer_before_busStep {s t : State} (h : busStep s = .next t) (off : t.gateTimer = false) :
    s.gateTimer = false :=
  Bool.eq_false_iff.2 fun on =>
    Bool.eq_false_iff.1 off (getLsbD_of_clearedGates (busStep_clearedGates_eq h) (n := 7) (by decide) on)

/-- While the timer is gated off it is never the tick agent's turn (R79). -/
theorem State.ticksNext_of_gateTimer_off {s : State} (off : s.gateTimer = false) : s.ticksNext = false := by
  simp [State.ticksNext, State.tickEnabled, off]

/-- Steps of the bus master that leave the timer gated off are steps of the machine: a gate never goes off again, so the
timer was gated off all along and no TICK came between. -/
theorem runs_of_busRun {k : Nat} {s t : State} (h : busRun k s = .next t) (off : t.gateTimer = false) :
    Runs k s t ∧ s.gateTimer = false := by
  induction k generalizing s with
  | zero => exact ⟨h, next_eq.1 h ▸ off⟩
  | succ k ih =>
    obtain ⟨u, first, rest⟩ := iter_succ.1 h
    obtain ⟨run, stillOff⟩ := ih rest
    have wasOff := State.gateTimer_before_busStep first stillOff
    obtain ⟨live, -⟩ := busStep_effect first
    have step_eq := step_of_not_ticksNext live (State.ticksNext_of_gateTimer_off wasOff)
    exact ⟨runs_succ.2 ⟨u, step_eq.trans first, run⟩, wasOff⟩

/-- CLKCTRL's reset value has the timer gated off, and the mask of CONFIGURE_PINS leaves it so (10_state.md R11). -/
theorem timerOff_of_resetsWF {c : Config} (wf : c.ResetsWF) :
    (c.clkctrlReset ||| 0x00010040#32).getLsbD 7 = false := by
  obtain ⟨gatesOff, -⟩ := wf
  have off : (c.clkctrlReset &&& gateMask).getLsbD 7 = false := by rw [gatesOff]; rfl
  simpa [gateMask] using off

/-- The FUNC field of a pin register after an ORW of a FUNC code. -/
theorem pinFunc_orw (v : Word) (f : BitVec 3) : pinFunc ((v ||| funcMask f) &&& pinMask) = pinFunc v ||| f := by
  have masked : pinFunc pinMask = BitVec.allOnes 3 := by decide
  have code : pinFunc (funcMask f) = f := by revert f; decide
  have byField : pinFunc ((v ||| funcMask f) &&& pinMask) = (pinFunc v ||| pinFunc (funcMask f)) &&& pinFunc pinMask := by
    simp [pinFunc, BitVec.extractLsb'_and, BitVec.extractLsb'_or]
  rw [byField, masked, code, BitVec.and_allOnes]

/-- A FUNC field OR a code is the code exactly where the field has no bit outside the code (R67). -/
theorem or_eq_code_iff (v f : BitVec 3) : v ||| f = f ↔ v &&& ~~~f = 0#3 := by
  revert v f
  decide

/-- Settles O27: from reset, the bus master's 8 steps of R66 leave the timer gated off, so they are the machine's. -/
theorem configurePinsFromReset : Obligations.ConfigurePinsFromReset := by
  rintro c ls ⟨-, resets, -, -⟩
  have completes := configurePinsCompletes { State.resetOf c with program := .configurePins :: ls } ls rfl rfl
  obtain ⟨run, -⟩ := runs_of_busRun completes (timerOff_of_resetsWF resets)
  have od : ((c.pinResetOd &&& pinMask) ||| (0x00000400#32 ||| funcMask c.funcOdGpio)) &&& pinMask =
      (c.pinResetOd ||| 0x00000400#32 ||| funcMask c.funcOdGpio) &&& pinMask := by
    rw [masked_or_masked, BitVec.or_assoc]
  have pwm : ((c.pinResetPwm &&& pinMask) ||| funcMask c.funcPwmMat0) &&& pinMask =
      (c.pinResetPwm ||| funcMask c.funcPwmMat0) &&& pinMask := masked_or_masked ..
  have func : pinFunc (((c.pinResetPwm &&& pinMask) ||| funcMask c.funcPwmMat0) &&& pinMask) = c.funcPwmMat0 ↔
      pinFunc c.pinResetPwm &&& ~~~c.funcPwmMat0 = 0#3 := by
    rw [pwm, pinFunc_orw, or_eq_code_iff]
  exact ⟨_, run, rfl, rfl, rfl, rfl, od, rfl, rfl, pwm, rfl, rfl, rfl, rfl, rfl, rfl, rfl, func⟩

/-! Fields without an effect (R64, R65). -/

/-- The state with other values in the four pin registers. -/
def State.withPins (s : State) (a b c d : Word) : State :=
  { s with pinOd := a, pinDbg0 := b, pinDbg1 := c, pinPwm := d }

/-- Of the pin registers the PWM pin's level depends on PIN[PWM].FUNC alone (R64, R88). -/
theorem State.pwmPin_withPins {s : State} {a b c d : Word} (func : pinFunc d = pinFunc s.pinPwm) :
    (s.withPins a b c d).pwmPin = s.pwmPin := by
  have same : pinFunc (s.withPins a b c d).pinPwm = pinFunc s.pinPwm := func
  rw [State.pwmPin, same]
  rfl

/-- A tick shows no pin register but PIN[PWM].FUNC, in its sample. -/
theorem State.ticked_withPins {s : State} {a b c d : Word} (func : pinFunc d = pinFunc s.pinPwm) :
    (s.withPins a b c d).ticked = s.ticked.withPins a b c d := by
  have sample : ({ s with mat0 := s.latched s.tc }.withPins a b c d).pwmPin =
      ({ s with mat0 := s.latched s.tc } : State).pwmPin := State.pwmPin_withPins func
  have trace : (s.withPins a b c d).ticked.trace = s.ticked.trace :=
    congrArg (fun level => s.trace ++ [level]) sample
  calc (s.withPins a b c d).ticked
      = { s.ticked.withPins a b c d with trace := (s.withPins a b c d).ticked.trace } := rfl
    _ = s.ticked.withPins a b c d := by rw [trace]; rfl

/-- The TICK operation, the one that faults included, is the same whatever the other pin fields hold. -/
theorem exec_tick_withPins {s t : State} {a b c d : Word} (func : pinFunc d = pinFunc s.pinPwm)
    (h : exec .tick s = .next t) : exec .tick (s.withPins a b c d) = .next (t.withPins a b c d) := by
  obtain ⟨enabled, ⟨zero, rfl⟩ | ⟨period, rfl⟩⟩ := execTick_next.1 h
  · exact execTick_next.2 ⟨enabled, .inl ⟨zero, rfl⟩⟩
  · exact execTick_next.2 ⟨enabled, .inr ⟨period, (State.ticked_withPins func).symm⟩⟩

/-- Any number of TICKs, by induction on it: each keeps PIN[PWM], and so the agreement on its FUNC. -/
theorem ticks_withPins {k : Nat} {s t : State} {a b c d : Word} (func : pinFunc d = pinFunc s.pinPwm)
    (h : ticks k s = .next t) : ticks k (s.withPins a b c d) = .next (t.withPins a b c d) := by
  induction k generalizing s with
  | zero => rw [next_eq.1 h]; rfl
  | succ k ih =>
    obtain ⟨u, first, rest⟩ := iter_succ.1 h
    have pwm : u.pinPwm = s.pinPwm := stored_exec_tick (r := .pinPwm) first (by decide)
    exact iter_succ.2 ⟨_, exec_tick_withPins func first, ih (by rw [pwm, func]) rest⟩

/-- Settles O28. -/
theorem electricalFieldsDoNotShow : Obligations.ElectricalFieldsDoNotShow := fun _ _ _ _ _ func =>
  ⟨State.pwmPin_withPins func, fun _ _ h => ticks_withPins func h⟩

end Sys2Proof.Machine
end

section
/-! PROOFS. The timer: its reads and writes, the counter's step and what any number of them do, and INIT_PWM from reset
(42_timer.md R68 to R84, 43_pwm_duty.md R85 to R89). -/

namespace Sys2Proof.Machine

/-! Reads and writes. -/

/-- Settles O29: each timer register's read, by the form that every read has. -/
theorem timerReadsReturnTheRegister : Obligations.TimerReadsReturnTheRegister :=
  ⟨readsAs_rd .tcr fun _ => Iff.rfl, readsAs_rd .tc fun _ => Iff.rfl, readsAs_rd .mcr fun _ => Iff.rfl,
   readsAs_rd .mr0 fun _ => Iff.rfl, readsAs_rd .mr3 fun _ => Iff.rfl, readsAs_rd .pwmc fun _ => Iff.rfl⟩

/-- Settles O30: each of the five registers' writes, by the form of a write without a check of its own. -/
theorem timerWritesStoreTheMaskedData : Obligations.TimerWritesStoreTheMaskedData :=
  ⟨writesAs_wr (r := .tc) (by decide) (by decide) fun _ => Iff.rfl,
   writesAs_wr (r := .mcr) (by decide) (by decide) fun _ => Iff.rfl,
   writesAs_wr (r := .mr0) (by decide) (by decide) fun _ => Iff.rfl,
   writesAs_wr (r := .mr3) (by decide) (by decide) fun _ => Iff.rfl,
   writesAs_wr (r := .pwmc) (by decide) (by decide) fun _ => Iff.rfl⟩

/-- Settles O31: the three things WR_TCR can do. -/
theorem wrTcrStartsOrRefusesZeroPeriod : Obligations.WrTcrStartsOrRefusesZeroPeriod := by
  refine fun d => ⟨decode_wrWord .tcr d, fun s live => ⟨fun clocked allowed => ?_, fun clocked starts zero => ?_,
    fun unclocked => ?_⟩⟩
  · have passes : ¬ (d[0] = true ∧ s.mr3 = 0#32) := by
      rintro ⟨starts, zero⟩
      obtain stops | period := allowed
      · simp [starts] at stops
      · exact period zero
    exact execWrTcr_next.2 ⟨live, .inl ⟨clocked, passes, rfl⟩⟩
  · exact execWrTcr_next.2 ⟨live, .inr (.inl ⟨clocked, ⟨starts, zero⟩, rfl⟩)⟩
  · exact execWrTcr_next.2 ⟨live, .inr (.inr ⟨unclocked, rfl⟩)⟩

/-! When a TICK is enabled. -/

/-- The three conditions of R79, as the statements write them. -/
theorem State.tickEnabled_iff {s : State} :
    s.tickEnabled = true ↔ s.fault = none ∧ s.clkctrl[7] = true ∧ s.tcr[0] = true := by
  simp only [State.tickEnabled, Bool.and_eq_true, Option.isNone_iff_eq_none]
  exact ⟨fun ⟨⟨cen, gate⟩, live⟩ => ⟨live, gate, cen⟩, fun ⟨live, gate, cen⟩ => ⟨⟨cen, gate⟩, live⟩⟩

/-- A TICK that is enabled answers a next state, whether it faults or not. -/
theorem exec_tick_of_enabled {s : State} (enabled : s.tickEnabled = true) : ∃ t, exec .tick s = .next t := by
  by_cases zero : s.mr3 = 0#32
  · exact ⟨_, execTick_next.2 ⟨enabled, .inl ⟨zero, rfl⟩⟩⟩
  · exact ⟨_, exec_tick_of_running enabled zero⟩

/-- Settles O32. -/
theorem tickEnabledExactlyWhenRunning : Obligations.TickEnabledExactlyWhenRunning := by
  refine fun s => ⟨⟨?_, ?_⟩, fun live stopped => ?_⟩
  · rintro ⟨t, h⟩
    obtain ⟨enabled, -⟩ := execTick_next.1 h
    exact State.tickEnabled_iff.1 enabled
  · exact fun running => exec_tick_of_enabled (State.tickEnabled_iff.2 running)
  · have disabled : ¬ s.tickEnabled = true := fun enabled =>
      have ⟨_, running⟩ := State.tickEnabled_iff.1 enabled
      stopped running
    exact (whenLive_live live _).trans (if_neg disabled)

/-! A TICK while MR3 = 0. -/

/-- An operation that leads to a counter running with MR3 = 0 is a WR_MR3: a WR_TCR that sets CEN passed R70's check, and
every other operation leaves TCR and MR3 as they were. -/
theorem Effect.zeroPeriod_cause {i : Instr} {s t : State} (h : Effect i s t) (safe : s.tcr[0] = true → s.mr3 ≠ 0#32)
    (cen : t.tcr[0] = true) (zero : t.mr3 = 0#32) :
    s.tcr[0] = true ∧ ∃ d, i = .wrMr3 d ∧ d &&& s.cfg.timerWidth.mask = 0#32 := by
  have kept (tcr : t.tcr = s.tcr) (mr3 : t.mr3 = s.mr3) : False := safe (tcr ▸ cen) (mr3 ▸ zero)
  cases h with
  | faulted f e => exact (kept (by simp [e]) (by simp [e])).elim
  | read r x _ _ e => exact (kept (by simp [e]) (by simp [e])).elim
  | duty p v _ _ _ e => exact (kept (by simp [e, State.writeReg]) (by simp [e, State.writeReg])).elim
  | orw r m ls _ _ e => exact (kept (by simp [e]) (by simp [e])).elim
  | delay _ e => exact (kept (by simp [e]) (by simp [e])).elim
  | tick _ _ _ e => exact (kept (by simp [e]) (by simp [e])).elim
  | write r d hi _ e _ passes =>
    cases r with
    | mr3 => exact ⟨by simpa [e, State.writeReg] using cen, d, hi, by simpa [e, State.writeReg, wmask] using zero⟩
    | tcr =>
      have starts : d[0] = true := by simpa [e, State.writeReg, wmask] using cen
      exact absurd ⟨starts, by simpa [e, State.writeReg] using zero⟩ (passes rfl)
    | _ => exact (kept (by simp [e, State.writeReg]) (by simp [e, State.writeReg])).elim

/-- Settles O34. -/
theorem zeroPeriodTickFaults : Obligations.ZeroPeriodTickFaults := by
  refine ⟨fun s live gate cen zero => ?_, fun i s t safe h cen zero => ?_⟩
  · exact execTick_next.2 ⟨State.tickEnabled_iff.2 ⟨live, gate, cen⟩, .inl ⟨zero, rfl⟩⟩
  · obtain ⟨-, effect⟩ := exec_effect h
    exact effect.zeroPeriod_cause safe cen zero

/-! One tick. -/

theorem timerMask_toNat (w : TimerWidth) : w.mask.toNat = 2 ^ w.bits - 1 := by cases w <;> rfl

/-- The counter's successor is taken modulo 2^W (R80). -/
theorem succW_toNat (w : TimerWidth) (c : Word) : (succW w c).toNat = (c.toNat + 1) % 2 ^ w.bits := by
  have narrow : 2 ^ w.bits ∣ 2 ^ 32 := Nat.pow_dvd_pow 2 (by cases w <;> decide)
  rw [succW, BitVec.toNat_and, timerMask_toNat, Nat.and_two_pow_sub_one_eq_mod, BitVec.toNat_add,
    Nat.mod_mod_of_dvd _ narrow]
  rfl

/-- Settles O33. -/
theorem tickLatchesSamplesAndCounts : Obligations.TickLatchesSamplesAndCounts := by
  intro s live gate cen period
  have running : exec .tick s = .next s.ticked :=
    exec_tick_of_running (State.tickEnabled_iff.2 ⟨live, gate, cen⟩) period
  exact ⟨s.latched s.tc, succW s.cfg.timerWidth s.tc, rfl, succW_toNat s.cfg.timerWidth s.tc, running⟩

/-- With MCR = 0x400 the match with MR3 alone resets the counter (R74, R80). -/
theorem State.nextCount_of_mr3r {s : State} (mode : s.mcr = 0x00000400#32) (c : Word) :
    s.nextCount c = if succW s.cfg.timerWidth c = s.mr3 then 0#32 else succW s.cfg.timerWidth c := by
  simp [State.nextCount, State.mr3r, State.mr0r, mode]

/-- With MCR = 0 no match resets the counter (R74, R80). -/
theorem State.nextCount_of_free {s : State} (mode : s.mcr = 0#32) (c : Word) :
    s.nextCount c = succW s.cfg.timerWidth c := by
  simp [State.nextCount, State.mr3r, State.mr0r, mode]

/-- Below the period a tick counts modulo the period: from P - 1 straight to 0 (R80). -/
theorem State.PeriodSetUp.ticked_tc_of_lt {s : State} {p : Nat} (h : s.PeriodSetUp p)
    (fits : p < 2 ^ s.cfg.timerWidth.bits) (below : s.tc.toNat < p) : s.ticked.tc.toNat = (s.tc.toNat + 1) % p := by
  have succ : (succW s.cfg.timerWidth s.tc).toNat = s.tc.toNat + 1 := by
    rw [succW_toNat, Nat.mod_eq_of_lt (by omega)]
  rw [State.ticked_tc, State.nextCount_of_mr3r h.mode]
  split
  · next meets =>
    have atPeriod : s.tc.toNat + 1 = p := by rw [← succ, meets, h.period]
    rw [atPeriod, Nat.mod_self]
    rfl
  · next misses =>
    have notYet : s.tc.toNat + 1 ≠ p := fun e => misses (BitVec.eq_of_toNat_eq (by rw [succ, e, h.period]))
    rw [succ, Nat.mod_eq_of_lt (by omega)]

/-- From the period on a tick counts modulo 2^W: the successor does not meet MR3 (R82). -/
theorem State.PeriodSetUp.ticked_tc_of_ge {s : State} {p : Nat} (h : s.PeriodSetUp p) (above : p ≤ s.tc.toNat)
    (fits : s.tc.toNat < 2 ^ s.cfg.timerWidth.bits) :
    s.ticked.tc.toNat = (s.tc.toNat + 1) % 2 ^ s.cfg.timerWidth.bits := by
  have misses : succW s.cfg.timerWidth s.tc ≠ s.mr3 := by
    intro meets
    have atPeriod : (s.tc.toNat + 1) % 2 ^ s.cfg.timerWidth.bits = p := by rw [← succW_toNat, meets, h.period]
    have positive := h.positive
    obtain wraps | counts := Nat.eq_or_lt_of_le (Nat.add_one_le_of_lt fits)
    · rw [wraps, Nat.mod_self] at atPeriod
      omega
    · rw [Nat.mod_eq_of_lt counts] at atPeriod
      omega
  rw [State.ticked_tc, State.nextCount_of_mr3r h.mode, if_neg misses, succW_toNat]

/-! Any number of ticks. -/

/-- The ticks of a running counter whose period is not zero. -/
theorem ticks_of_running {s : State} (enabled : s.tickEnabled = true) (period : s.mr3 ≠ 0#32) (k : Nat) :
    ticks k s = .next (State.ticked^[k] s) := by
  induction k generalizing s with
  | zero => rfl
  | succ k ih => exact iter_succ.2 ⟨_, exec_tick_of_running enabled period, ih enabled period⟩

theorem State.iterate_ticked_cfg (s : State) (k : Nat) : (State.ticked^[k] s).cfg = s.cfg :=
  Function.Iterate.rec (fun u : State => u.cfg = s.cfg) (f := State.ticked) rfl (fun _ h => h) k

theorem State.iterate_ticked_mcr (s : State) (k : Nat) : (State.ticked^[k] s).mcr = s.mcr :=
  Function.Iterate.rec (fun u : State => u.mcr = s.mcr) (f := State.ticked) rfl (fun _ h => h) k

/-- Every tick takes one sample (R88). -/
theorem State.iterate_ticked_trace_length (s : State) (k : Nat) :
    (State.ticked^[k] s).trace.length = s.trace.length + k := by
  induction k with
  | zero => rfl
  | succ k ih =>
    rw [Function.iterate_succ_apply', State.ticked_trace, List.length_append, ih, List.length_singleton, Nat.add_assoc]

/-- A tick leaves the counter set up. -/
theorem State.PeriodSetUp.ticked {s : State} {p : Nat} (h : s.PeriodSetUp p) : s.ticked.PeriodSetUp p :=
  ⟨h.enabled, h.mode, h.period, h.positive⟩

theorem State.PeriodSetUp.iterate_ticked {s : State} {p : Nat} (h : s.PeriodSetUp p) (k : Nat) :
    (State.ticked^[k] s).PeriodSetUp p :=
  Function.Iterate.rec (fun u : State => u.PeriodSetUp p) h (fun _ => State.PeriodSetUp.ticked) k

theorem State.PeriodSetUp.ticks_eq {s : State} {p : Nat} (h : s.PeriodSetUp p) (k : Nat) :
    ticks k s = .next (State.ticked^[k] s) := by
  refine ticks_of_running h.enabled (fun zero => ?_) k
  have period := h.period
  rw [zero] at period
  exact h.positive.ne period

/-- If each of `n` ticks counts on by 1 modulo `m`, given where the ticks before it have led, the `n` ticks together count
on by `n` modulo `m`. -/
theorem State.iterate_ticked_tc {s : State} {m : Nat} (start : s.tc.toNat < m) (n : Nat)
    (counts : ∀ j < n, (State.ticked^[j] s).tc.toNat = (s.tc.toNat + j) % m →
      (State.ticked^[j] s).ticked.tc.toNat = ((State.ticked^[j] s).tc.toNat + 1) % m) :
    (State.ticked^[n] s).tc.toNat = (s.tc.toNat + n) % m := by
  induction n with
  | zero => exact (Nat.mod_eq_of_lt start).symm
  | succ n ih =>
    have before := ih fun j hj => counts j (by omega)
    rw [Function.iterate_succ_apply', counts n (by omega) before, before, Nat.mod_add_mod, Nat.add_assoc]

/-- From below the period the counter runs through 0 to P - 1 over and over (R82). -/
theorem State.PeriodSetUp.iterate_ticked_tc_of_lt {s : State} {p : Nat} (h : s.PeriodSetUp p)
    (fits : p < 2 ^ s.cfg.timerWidth.bits) (below : s.tc.toNat < p) (k : Nat) :
    (State.ticked^[k] s).tc.toNat = (s.tc.toNat + k) % p :=
  State.iterate_ticked_tc below k fun j _ before =>
    (h.iterate_ticked j).ticked_tc_of_lt (by rwa [State.iterate_ticked_cfg]) (before ▸ Nat.mod_lt _ h.positive)

/-- From the period on the counter runs up to 2^W - 1 and wraps to 0 (R82). -/
theorem State.PeriodSetUp.iterate_ticked_tc_of_ge {s : State} {p : Nat} (h : s.PeriodSetUp p) (above : p ≤ s.tc.toNat)
    (fits : s.tc.toNat < 2 ^ s.cfg.timerWidth.bits) {k : Nat} (once : s.tc.toNat + k ≤ 2 ^ s.cfg.timerWidth.bits) :
    (State.ticked^[k] s).tc.toNat = (s.tc.toNat + k) % 2 ^ s.cfg.timerWidth.bits := by
  refine State.iterate_ticked_tc fits k fun j hj before => ?_
  rw [Nat.mod_eq_of_lt (by omega)] at before
  have cfg := State.iterate_ticked_cfg s j
  have tick := (h.iterate_ticked j).ticked_tc_of_ge (by omega) (by rw [cfg]; omega)
  rwa [cfg] at tick

/-- With MCR = 0 the counter runs through all 2^W values (R82). -/
theorem State.iterate_ticked_tc_of_free {s : State} (mode : s.mcr = 0#32)
    (fits : s.tc.toNat < 2 ^ s.cfg.timerWidth.bits) (k : Nat) :
    (State.ticked^[k] s).tc.toNat = (s.tc.toNat + k) % 2 ^ s.cfg.timerWidth.bits :=
  State.iterate_ticked_tc fits k fun j _ _ => by
    rw [State.ticked_tc, State.nextCount_of_free ((State.iterate_ticked_mcr s j).trans mode), succW_toNat,
      State.iterate_ticked_cfg]

/-- Settles O35. -/
theorem counterIsPeriodic : Obligations.CounterIsPeriodic :=
  ⟨fun _ _ k h fits below => ⟨_, h.ticks_eq k, h.iterate_ticked_tc_of_lt fits below k⟩,
   fun _ _ k h above fits once => ⟨_, h.ticks_eq k, h.iterate_ticked_tc_of_ge above fits once⟩,
   fun _ k enabled mode period fits =>
    ⟨_, ticks_of_running enabled period k, State.iterate_ticked_tc_of_free mode fits k⟩⟩

/-! The samples of a cycle (R87 to R89). -/

/-- The pin is observable: it shows the match output of a channel in PWM mode (R88). -/
def State.Observable (s : State) : Prop := s.pinPwm.extractLsb' 0 3 = s.cfg.funcPwmMat0 ∧ s.pwmc[0] = true

/-- The level in that tick of the current cycle in which TC holds `c`, while MR0 stays: HIGH from the match on; and HIGH
throughout if the latch already is, unless the cycle is only about to start. -/
def State.levelAt (s : State) (c : Nat) : Bool :=
  decide ((s.tc ≠ 0#32 ∧ s.mat0 = true) ∨ (s.tc.toNat ≤ s.mr0.toNat ∧ s.mr0.toNat ≤ c))

/-- At the start of a cycle the level of a tick is HIGH exactly from the match on (R89). -/
theorem State.levelAt_of_start {s : State} (start : s.tc = 0#32) (c : Nat) :
    s.levelAt c = decide (s.mr0.toNat ≤ c) := by
  simp [State.levelAt, start]

/-- The latch after a tick is the level of that tick (R87). -/
theorem State.latched_eq_levelAt (s : State) : s.latched s.tc = s.levelAt s.tc.toNat := by
  have match_iff : s.tc = s.mr0 ↔ s.tc.toNat ≤ s.mr0.toNat ∧ s.mr0.toNat ≤ s.tc.toNat := by
    rw [← BitVec.toNat_inj]
    omega
  by_cases hm : s.tc = s.mr0
  · simp [State.latched, State.levelAt, hm]
  · have unmatched := mt match_iff.2 hm
    simp only [State.latched, if_neg hm, State.levelAt, unmatched, or_false]
    by_cases hz : s.tc = 0#32 <;> simp [hz]

/-- A tick in the middle of a cycle does not change what the later ticks of the cycle will show. -/
theorem State.levelAt_ticked {s : State} (next : s.ticked.tc.toNat = s.tc.toNat + 1) {c : Nat} (later : s.tc.toNat < c) :
    s.ticked.levelAt c = s.levelAt c := by
  have counting : s.ticked.tc ≠ 0#32 := by
    intro zero
    rw [zero] at next
    simp at next
  have latch : s.ticked.mat0 = true ↔ (s.tc ≠ 0#32 ∧ s.mat0 = true) ∨
      (s.tc.toNat ≤ s.mr0.toNat ∧ s.mr0.toNat ≤ s.tc.toNat) := by
    rw [State.ticked_mat0, State.latched_eq_levelAt, State.levelAt, decide_eq_true_iff]
  unfold State.levelAt
  rw [next, State.ticked_mr0, decide_eq_decide, latch]
  constructor
  · rintro (⟨-, high | ⟨hle, hge⟩⟩ | ⟨hle, hge⟩)
    · exact .inl high
    · exact .inr ⟨hle, by omega⟩
    · exact .inr ⟨by omega, hge⟩
  · rintro (high | ⟨hle, hge⟩)
    · exact .inl ⟨counting, .inl high⟩
    · by_cases now : s.mr0.toNat ≤ s.tc.toNat
      · exact .inl ⟨counting, .inr ⟨hle, now⟩⟩
      · exact .inr ⟨by omega, hge⟩

/-- The sample of a tick, where the pin is observable. -/
theorem State.ticked_trace_of_observable {s : State} (h : s.Observable) :
    s.ticked.trace = s.trace ++ [some (s.levelAt s.tc.toNat)] := by
  rw [State.ticked_trace, ← State.latched_eq_levelAt]
  exact congrArg (fun level => s.trace ++ [level]) (if_pos h)

/-- The samples of `k` ticks that stay in the current cycle. -/
theorem State.PeriodSetUp.iterate_ticked_trace {s : State} {p k : Nat} (h : s.PeriodSetUp p)
    (fits : p < 2 ^ s.cfg.timerWidth.bits) (observable : s.Observable) (within : s.tc.toNat + k ≤ p) :
    (State.ticked^[k] s).trace = s.trace ++ (List.range' s.tc.toNat k).map fun c => some (s.levelAt c) := by
  induction k generalizing s with
  | zero => simp
  | succ k ih =>
    have sample := State.ticked_trace_of_observable observable
    rw [Function.iterate_succ_apply]
    obtain rfl | more := Nat.eq_zero_or_pos k
    · exact sample
    · have next : s.ticked.tc.toNat = s.tc.toNat + 1 := by
        rw [h.ticked_tc_of_lt fits (by omega), Nat.mod_eq_of_lt (by omega)]
      have rest : (List.range' (s.tc.toNat + 1) k).map (fun c => some (s.ticked.levelAt c)) =
          (List.range' (s.tc.toNat + 1) k).map (fun c => some (s.levelAt c)) := by
        refine List.map_congr_left fun c hc => ?_
        obtain ⟨later, -⟩ := List.mem_range'_1.1 hc
        rw [State.levelAt_ticked next later]
      rw [ih h.ticked fits observable (by omega), next, sample, rest, List.range'_succ]
      simp

/-- Of the ticks of a cycle of `p` those from `m` on are `p - min m p`. -/
theorem highs_cycle (m p : Nat) :
    highs ((List.range p).map fun c => some (decide (m ≤ c))) = p - min m p := by
  induction p with
  | zero => simp [highs]
  | succ p ih =>
    rw [highs] at ih
    rw [highs, List.range_succ, List.map_append, List.count_append, ih]
    by_cases h : m ≤ p <;> simp [h] <;> omega

/-- Settles O43: the samples of a cycle from its start, and their number. -/
theorem fullCycleHighSamples : Obligations.FullCycleHighSamples := by
  refine ⟨fun s p h fits start func mode => ?_, fun p hp => by omega⟩
  have zero : s.tc.toNat = 0 := by rw [start]; rfl
  have trace : (State.ticked^[p] s).trace =
      s.trace ++ (List.range p).map fun c => some (decide (s.mr0.toNat ≤ c)) := by
    rw [h.iterate_ticked_trace fits ⟨func, mode⟩ (by omega), zero, ← List.range_eq_range']
    simp only [State.levelAt_of_start start]
  refine ⟨_, h.ticks_eq p, BitVec.eq_of_toNat_eq ?_, trace, ?_⟩
  · rw [h.iterate_ticked_tc_of_lt fits (zero ▸ h.positive) p, zero, Nat.zero_add, Nat.mod_self]
    rfl
  · rw [trace, highs, List.count_append]
    exact congrArg (highs s.trace + ·) (highs_cycle s.mr0.toNat p)

/-! INIT_PWM from reset (R84). -/

/-- While CEN = 0 it is never the tick agent's turn (R79). -/
theorem State.ticksNext_of_cen_off {s : State} (off : s.cen = false) : s.ticksNext = false := by
  simp [State.ticksNext, State.tickEnabled, off]

/-- While CEN = 0, and no write but the last is of TCR, the writes of INIT_PWM are made with no TICK between them. -/
theorem InitPwmAt.iter_step_eq {s t : State} {done todo : List (Reg × Word)} (wf : s.cfg.PeriodWF)
    (h : InitPwmAt s t done todo) (off : todo ≠ [] → t.cen = false) (last : ∀ p ∈ todo.dropLast, p.1 ≠ .tcr) :
    iter step todo.length t = busRun todo.length t := by
  induction todo generalizing t done with
  | nil => rfl
  | cons p todo ih =>
    have bus := h.busStep_eq wf
    have first : step t = .next (t.issued p.1 p.2) :=
      (step_of_not_ticksNext h.live (State.ticksNext_of_cen_off (off (by simp)))).trans bus
    have stillOff : todo ≠ [] → (t.issued p.1 p.2).cen = false := by
      intro more
      have other : p.1 ≠ .tcr := last p (by simp [List.dropLast_cons_of_ne_nil more])
      have tcr : (t.issued p.1 p.2).tcr = t.tcr :=
        (State.issued_stored t p.1 .tcr p.2).trans (if_neg other.symm)
      rw [State.cen, tcr]
      exact off (by simp)
    have stillLast : ∀ q ∈ todo.dropLast, q.1 ≠ .tcr := by
      intro q hq
      have more : todo ≠ [] := by
        rintro rfl
        simp at hq
      exact last q (by simp [List.dropLast_cons_of_ne_nil more, hq])
    simp only [busRun, List.length_cons, iter, first, bus]
    exact ih (h.issued wf) stillOff stillLast

/-- INIT_PWM begun while CEN = 0 runs with no TICK between its transactions: WR_TCR is the last of them. -/
theorem runs_initPwm_of_cen_off {s t : State} {ls : List Line} (wf : s.cfg.PeriodWF) (live : s.fault = none)
    (hp : s.program = .initPwm :: ls) (off : s.cen = false) (h : busRun 8 s = .next t) : Runs 8 s t := by
  have begun : InitPwmAt s s.initPwmBegun [] (initPwmWrites s) :=
    InitPwmWaiting.begun ⟨live, rfl, rfl, rfl, rfl, rfl⟩
  have bus := busStep_initPwm live hp
  have first : step s = .next s.initPwmBegun :=
    (step_of_not_ticksNext live (State.ticksNext_of_cen_off off)).trans bus
  have rest : iter step 7 s.initPwmBegun = busRun 7 s.initPwmBegun :=
    begun.iter_step_eq wf (fun _ => off) (by simp [initPwmWrites])
  obtain ⟨u, hu, ht⟩ := iter_succ.1 h
  obtain rfl := next_eq.1 (bus.symm.trans hu)
  exact runs_succ.2 ⟨_, first, rest.trans ht⟩

/-- A counter at 0 percent: MR0 holds the period, TC is below it, and no level so far has been HIGH (R84, R89). -/
structure State.AllLow (s : State) (p : Nat) : Prop where
  setUp : s.PeriodSetUp p
  fits : p < 2 ^ s.cfg.timerWidth.bits
  duty : s.mr0.toNat = p
  below : s.tc.toNat < p
  low : s.mat0 = false
  noHigh : some true ∉ s.trace

/-- A tick at 0 percent does not meet MR0, so the latch stays LOW. -/
theorem State.AllLow.ticked {s : State} {p : Nat} (h : s.AllLow p) : s.ticked.AllLow p := by
  have below := h.below
  have misses : s.tc ≠ s.mr0 := by
    intro meets
    rw [meets, h.duty] at below
    exact below.ne rfl
  have low : s.latched s.tc = false := by simp [State.latched, misses, h.low]
  refine ⟨h.setUp.ticked, h.fits, h.duty, ?_, low, ?_⟩
  · rw [h.setUp.ticked_tc_of_lt h.fits below]
    exact Nat.mod_lt _ h.setUp.positive
  · simp [h.noHigh, State.pwmPin, low]

/-- Any number of ticks at 0 percent takes that many samples, and none of them is HIGH. -/
theorem State.AllLow.ticks_noHigh {s : State} {p : Nat} (h : s.AllLow p) (empty : s.trace = []) (k : Nat) :
    ∃ u, ticks k s = .next u ∧ u.trace.length = k ∧ some true ∉ u.trace := by
  have low := Function.Iterate.rec (fun u : State => u.AllLow p) h (fun _ => State.AllLow.ticked) k
  exact ⟨_, h.setUp.ticks_eq k, by simp [State.iterate_ticked_trace_length, empty], low.noHigh⟩

/-- Settles O39: with CEN = 0 until the last write no TICK comes between the transactions, and then every tick keeps the
output from HIGH. -/
theorem initPwmFromReset : Obligations.InitPwmFromReset := by
  intro c ls wf
  have ⟨_, _, period, _⟩ := wf
  have ⟨_, _, positive, fits⟩ := period
  have off : ({ State.resetOf c with program := .initPwm :: ls } : State).cen = false := BitVec.getLsbD_zero
  have completes := initPwmCompletes { State.resetOf c with program := .initPwm :: ls } ls wf rfl rfl
  have run := runs_initPwm_of_cen_off period rfl rfl off completes
  have value : (BitVec.ofNat 32 (c.timerClkHz / c.pwmHz)).toNat = c.periodValue := periodWord_toNat period
  have gate : (c.clkctrlReset ||| 0x00000080#32)[7] = true := by simp
  have cen : (1#32 : Word)[0] = true := by simp
  refine ⟨_, run, rfl, rfl, rfl, rfl, gate, value, value, rfl, rfl, rfl, rfl, rfl, rfl, fun k => ?_⟩
  refine State.AllLow.ticks_noHigh (p := c.periodValue) ?_ rfl k
  exact ⟨⟨State.tickEnabled_iff.2 ⟨rfl, gate, cen⟩, rfl, value, positive⟩, fits, value, positive, rfl,
    List.not_mem_nil⟩

end Sys2Proof.Machine
end

section
/-! PROOFS. The duty: the word SET_DUTY writes under each policy, and what a write of MR0 does to the samples of a cycle
(43_pwm_duty.md R86, R89 to R93). -/

namespace Sys2Proof.Machine

/-! The word SET_DUTY writes (R90, R91). -/

theorem dutyOperand_inside (policy : DutyPolicy) {p : Int} (low : 0 ≤ p) (high : p ≤ 100) :
    dutyOperand policy p = some (dutyValue p) := if_neg (by omega)

theorem dutyOperand_fault {p : Int} (outside : p < 0 ∨ 100 < p) : dutyOperand .fault p = none := if_pos outside

theorem dutyOperand_passthrough (p : Int) : dutyOperand .passthrough p = some (dutyValue p) := ite_self _

theorem dutyOperand_clamp {p : Int} (outside : p < 0 ∨ 100 < p) :
    dutyOperand .clamp p = some (dutyValue (clampPercent p)) := if_pos outside

theorem clampPercent_below {p : Int} (below : p < 0) : clampPercent p = (0 : Nat) := by
  unfold clampPercent
  omega

theorem clampPercent_above {p : Int} (above : 100 < p) : clampPercent p = (100 : Nat) := by
  unfold clampPercent
  omega

/-- Every timer width has room for the values of SET_DUTY, which are 1600 at most. -/
theorem TimerWidth.lt_two_pow_bits (w : TimerWidth) : 1600 < 2 ^ w.bits := by cases w <;> decide

/-- The value of a percent in [0, 100] fits MR0: the write mask keeps every bit of it (R90). -/
theorem dutyValue_masked {p : Nat} (high : p ≤ 100) (w : TimerWidth) :
    dutyValue p &&& w.mask = BitVec.ofNat 32 (1600 - 16 * p) := by
  have value : dutyValue p = BitVec.ofNat 32 (1600 - 16 * p) := by
    rw [dutyValue, show (100 - (p : Int)) * 16 = (1600 - 16 * p : Nat) by omega, BitVec.ofInt_natCast]
  have fits := TimerWidth.lt_two_pow_bits w
  have number : (BitVec.ofNat 32 (1600 - 16 * p)).toNat = 1600 - 16 * p := Nat.mod_eq_of_lt (by omega)
  rw [value]
  apply BitVec.eq_of_toNat_eq
  rw [BitVec.toNat_and, timerMask_toNat, Nat.and_two_pow_sub_one_eq_mod, number, Nat.mod_eq_of_lt (by omega)]

/-! SET_DUTY. -/

/-- SET_DUTY with a word to write is a write of MR0, where the timer is clocked. -/
theorem exec_setDuty_of_operand {s : State} {p : Int} {v : Word} (live : s.fault = none) (clocked : s.clkctrl[7] = true)
    (operand : dutyOperand s.cfg.dutyPolicy p = some v) :
    exec (.setDuty p) s = .next (s.writeReg .mr0 v).retire :=
  execSetDuty_next.2 ⟨live, .inr ⟨v, operand, busWrite_next.2 ⟨live, .inl ⟨clocked, rfl⟩⟩⟩⟩

/-- A clamped percent is written as the end of [0, 100] that it was clamped to. -/
theorem exec_setDuty_clamped {s : State} {p : Int} {q : Nat} (live : s.fault = none) (clocked : s.clkctrl[7] = true)
    (policy : s.cfg.dutyPolicy = .clamp) (outside : p < 0 ∨ 100 < p) (clamped : clampPercent p = q) (high : q ≤ 100) :
    exec (.setDuty p) s =
      .next { s with mr0 := BitVec.ofNat 32 (1600 - 16 * q), pc := s.pc + 1, program := s.program.tail } := by
  have operand : dutyOperand s.cfg.dutyPolicy p = some (dutyValue q) := by
    rw [policy, dutyOperand_clamp outside, clamped]
  rw [exec_setDuty_of_operand live clocked operand, ← dutyValue_masked high s.cfg.timerWidth]
  rfl

/-- Settles O40: the word of each policy outside [0, 100], and the one word of all three inside it. -/
theorem setDutyFollowsThePolicy : Obligations.SetDutyFollowsThePolicy := by
  refine fun p s live => ⟨fun outside policy => ?_, fun clocked => ⟨fun _ policy => ?_, fun below policy => ?_,
    fun above policy => ?_, fun low high => ?_⟩, fun unclocked low high => ?_⟩
  · have refused : dutyOperand s.cfg.dutyPolicy p = none := policy ▸ dutyOperand_fault outside
    exact execSetDuty_next.2 ⟨live, .inl ⟨refused, rfl⟩⟩
  · exact exec_setDuty_of_operand live clocked (policy ▸ dutyOperand_passthrough p)
  · exact exec_setDuty_clamped live clocked policy (.inl below) (clampPercent_below below) (by omega)
  · exact exec_setDuty_clamped live clocked policy (.inr above) (clampPercent_above above) (by omega)
  · exact exec_setDuty_of_operand live clocked (dutyOperand_inside _ low high)
  · have write : busWrite .mr0 (dutyValue p) s = .next (s.faulted (.unclocked (wrWord .mr0 (dutyValue p)) s.pc)) :=
      busWrite_next.2 ⟨live, .inr ⟨unclocked, rfl⟩⟩
    exact execSetDuty_next.2 ⟨live, .inr ⟨_, dutyOperand_inside _ low high, write⟩⟩

/-- SET_DUTY of a percent in [0, 100] is a write of a word that MR0 holds as 1600 - 16 p. -/
theorem exec_setDuty_inside {s : State} {p : Nat} (high : p ≤ 100) (live : s.fault = none)
    (clocked : s.clkctrl[7] = true) :
    exec (.setDuty p) s = .next (s.writeReg .mr0 (dutyValue p)).retire ∧
      (s.writeReg .mr0 (dutyValue p)).retire.mr0.toNat = 1600 - 16 * p := by
  refine ⟨exec_setDuty_of_operand live clocked (dutyOperand_inside _ (by omega) (by omega)), ?_⟩
  have holds : (s.writeReg .mr0 (dutyValue p)).retire.mr0 = BitVec.ofNat 32 (1600 - 16 * p) :=
    dutyValue_masked high s.cfg.timerWidth
  rw [holds]
  exact Nat.mod_eq_of_lt (by omega)

/-- Settles O41. -/
theorem setDutyInRangeStores1600Minus16p : Obligations.SetDutyInRangeStores1600Minus16p := by
  intro p s high live clocked
  obtain ⟨done, value⟩ := exec_setDuty_inside high live clocked
  exact ⟨_, done, value, by simp [live]⟩

/-! A write of MR0 between two ticks. -/

/-- A write of MR0 leaves the counter set up. -/
theorem State.PeriodSetUp.writeMr0 {s : State} {p : Nat} (h : s.PeriodSetUp p) (d : Word) :
    (s.writeReg .mr0 d).retire.PeriodSetUp p :=
  ⟨h.enabled, h.mode, h.period, h.positive⟩

/-- A counter that is set up is clocked and live, so a write of MR0 completes. -/
theorem State.PeriodSetUp.exec_wrMr0 {s : State} {p : Nat} (h : s.PeriodSetUp p) (d : Word) :
    exec (.wrMr0 d) s = .next (s.writeReg .mr0 d).retire :=
  busWrite_next.2 ⟨State.fault_of_tickEnabled h.enabled, .inl ⟨State.gateTimer_of_tickEnabled h.enabled, rfl⟩⟩

theorem State.iterate_ticked_mr0 (s : State) (k : Nat) : (State.ticked^[k] s).mr0 = s.mr0 :=
  Function.Iterate.rec (fun u : State => u.mr0 = s.mr0) (f := State.ticked) rfl (fun _ h => h) k

/-- Ticks leave the pin observable: they change neither its function nor the PWM mode. -/
theorem State.Observable.iterate_ticked {s : State} (h : s.Observable) (k : Nat) : (State.ticked^[k] s).Observable :=
  Function.Iterate.rec State.Observable h (f := State.ticked) (fun _ h => h) k

/-- After `k + 1` ticks that stay in the current cycle the latch holds the level of the last of them (R87). -/
theorem State.PeriodSetUp.iterate_ticked_mat0 {s : State} {p k : Nat} (h : s.PeriodSetUp p)
    (fits : p < 2 ^ s.cfg.timerWidth.bits) (within : s.tc.toNat + k < p) :
    (State.ticked^[k + 1] s).mat0 = s.levelAt (s.tc.toNat + k) := by
  induction k generalizing s with
  | zero => exact State.latched_eq_levelAt s
  | succ k ih =>
    have next : s.ticked.tc.toNat = s.tc.toNat + 1 := by
      rw [h.ticked_tc_of_lt fits (by omega), Nat.mod_eq_of_lt (by omega)]
    rw [Function.iterate_succ_apply, ih h.ticked fits (by omega), next,
      show s.tc.toNat + 1 + k = s.tc.toNat + (k + 1) by omega, State.levelAt_ticked next (by omega)]

/-- The levels that are still to come in a cycle when MR0 is written in the middle of it: HIGH from now on if the latch is,
else from the new match on, if that is still to come (R93). -/
theorem State.levelAt_writeMr0 {s : State} {j : Nat} (count : s.tc.toNat = j + 1) (d : Word) (c : Nat) :
    (s.writeReg .mr0 d).retire.levelAt c = decide (s.mat0 = true ∨
      (j < (d &&& s.cfg.timerWidth.mask).toNat ∧ (d &&& s.cfg.timerWidth.mask).toNat ≤ c)) := by
  have midCycle : s.tc ≠ 0#32 := by
    intro zero
    simp [zero] at count
  have compare : s.tc.toNat ≤ (d &&& s.cfg.timerWidth.mask).toNat ↔ j < (d &&& s.cfg.timerWidth.mask).toNat := by
    rw [count, Nat.succ_le_iff]
  exact decide_eq_decide.2 (or_congr (and_iff_right midCycle) (and_congr_left' compare))

/-- The rest of a cycle from the middle of it, begun with a write of MR0. -/
theorem State.PeriodSetUp.finishes_after_writeMr0 {s : State} {p j : Nat} (h : s.PeriodSetUp p)
    (fits : p < 2 ^ s.cfg.timerWidth.bits) (observable : s.Observable) (count : s.tc.toNat = j + 1) (within : j + 1 < p)
    (d : Word) :
    ∃ v t, exec (.wrMr0 d) s = .next v ∧ ticks (p - (j + 1)) v = .next t ∧ t.tc = 0#32 ∧
      t.mr0 = d &&& s.cfg.timerWidth.mask ∧
      t.trace = s.trace ++ (List.range' (j + 1) (p - (j + 1))).map (fun c => some (decide (s.mat0 = true ∨
        (j < (d &&& s.cfg.timerWidth.mask).toNat ∧ (d &&& s.cfg.timerWidth.mask).toNat ≤ c)))) := by
  have written := h.writeMr0 d
  have counted : (s.writeReg .mr0 d).retire.tc.toNat = j + 1 := count
  refine ⟨_, _, h.exec_wrMr0 d, written.ticks_eq _, BitVec.eq_of_toNat_eq ?_, State.iterate_ticked_mr0 _ _, ?_⟩
  · rw [written.iterate_ticked_tc_of_lt fits (by omega), counted, show j + 1 + (p - (j + 1)) = p by omega, Nat.mod_self]
    rfl
  · rw [written.iterate_ticked_trace fits observable (by omega), counted]
    simp [State.levelAt_writeMr0 count]

/-- Settles O44: the latch at the write holds the level of the tick with c = k, and the levels after the write follow from
it and the new value of MR0. -/
theorem midCycleDutyWrite : Obligations.MidCycleDutyWrite := by
  intro s p k d h fits start within func mode
  have zero : s.tc.toNat = 0 := by rw [start]; rfl
  have cfg := State.iterate_ticked_cfg s (k + 1)
  have observable : s.Observable := ⟨func, mode⟩
  have latch : (State.ticked^[k + 1] s).mat0 = true ↔ s.mr0.toNat ≤ k := by
    rw [h.iterate_ticked_mat0 fits (by omega), State.levelAt_of_start start, zero, Nat.zero_add, decide_eq_true_iff]
  have count : (State.ticked^[k + 1] s).tc.toNat = k + 1 := by
    rw [h.iterate_ticked_tc_of_lt fits (by omega), zero, Nat.zero_add, Nat.mod_eq_of_lt within]
  obtain ⟨v, t, write, rest, ends, duty, trace⟩ := (h.iterate_ticked (k + 1)).finishes_after_writeMr0
    (cfg ▸ fits) (observable.iterate_ticked (k + 1)) count within d
  refine ⟨_, v, t, h.ticks_eq (k + 1), write, rest, ends, by rw [duty, cfg], ?_⟩
  simp only [trace, latch, cfg]

/-- Settles O45: SET_DUTY stores 1600 - 16 p, and a full cycle with that value has 16 p HIGH samples (R89). -/
theorem setDutyGivesItsPercentage : Obligations.SetDutyGivesItsPercentage := by
  intro s p inside h start func mode
  obtain ⟨live, clocked, -⟩ := State.tickEnabled_iff.1 h.enabled
  obtain ⟨done, value⟩ := exec_setDuty_inside inside live clocked
  have setUp := h.writeMr0 (dutyValue p)
  have ⟨fullCycle, _⟩ := fullCycleHighSamples
  obtain ⟨t, run, -, trace, high⟩ :=
    fullCycle _ 1600 setUp (TimerWidth.lt_two_pow_bits s.cfg.timerWidth) start func mode
  have ended : t = State.ticked^[1600] (s.writeReg .mr0 (dutyValue p)).retire :=
    next_eq.1 ((setUp.ticks_eq 1600).symm.trans run)
  refine ⟨_, t, done, run, ?_, ?_, ?_⟩
  · exact State.fault_of_tickEnabled (ended ▸ (setUp.iterate_ticked 1600).enabled)
  · simp [trace]
  · rw [high, value]
    exact congrArg (highs s.trace + ·) (by omega)

end Sys2Proof.Machine
end

section
/-! PROOFS. Faults: each is precise and final, and a transaction reports the first of the order of R96
(60_exceptions.md R94 to R96). -/

namespace Sys2Proof.Machine

/-- Settles O17: each code is its case of `Fault.code`. -/
theorem faultCodesAreNumbered : Obligations.FaultCodesAreNumbered :=
  fun _ _ _ _ => ⟨rfl, rfl, rfl, rfl, rfl, rfl⟩

/-! Precise and final (R95). -/

/-- A state that raised a fault holds the record of that fault alone. -/
theorem eq_faulted_of_fault {s t : State} {f : Fault} (raised : ∃ g, t = s.faulted g) (record : t.fault = some f) :
    t = s.faulted f := by
  obtain ⟨g, rfl⟩ := raised
  obtain rfl : g = f := Option.some.inj record
  rfl

theorem exec_fault_precise {i : Instr} {s t : State} {f : Fault} (h : exec i s = .next t) (record : t.fault = some f) :
    t = s.faulted f := by
  obtain ⟨live, effect⟩ := exec_effect h
  exact eq_faulted_of_fault ((effect.fault_or_live live).resolve_right (by simp [record])) record

/-- Neither agent's bookkeeping of turns touches a step that raised a fault. -/
theorem step_fault_precise {s t : State} {f : Fault} (h : step s = .next t) (record : t.fault = some f) :
    t = s.faulted f := by
  obtain ⟨live, raised | ⟨l, ls, i, u, -, -, -, -, completed, rfl⟩ | ⟨-, -, rfl⟩⟩ := step_effect h
  · exact eq_faulted_of_fault raised record
  · simp [completed] at record
  · simp [live] at record

/-- No run goes on from a state that holds a fault. -/
theorem not_runs_succ_of_fault {k : Nat} {s t : State} {f : Fault} (record : s.fault = some f) :
    ¬ Runs (k + 1) s t := by
  intro run
  obtain ⟨u, first, -⟩ := runs_succ.1 run
  obtain ⟨live, -⟩ := step_effect first
  simp [record] at live

/-- Settles O15. -/
theorem faultsArePreciseAndFinal : Obligations.FaultsArePreciseAndFinal := by
  refine fun s t f _ record => ⟨?_, fun _ _ => not_runs_succ_of_fault record⟩
  rintro (⟨i, h⟩ | h)
  · exact exec_fault_precise h record
  · exact step_fault_precise h record

/-! The fault of each kind of operation (R96). -/

/-- The bus master's step reports the fault of the operation it issues. -/
theorem busStep_fault {s t : State} {l : Line} {ls : List Line} {i : Instr} (hp : s.program = l :: ls)
    (hd : decodeLine l = .ok i) (h : busStep s = .next t) : ∃ u, exec i s = .next u ∧ t.fault = u.fault := by
  rw [busStep_of_decodeLine hp hd] at h
  obtain ⟨u, hu, ⟨-, rfl⟩ | ⟨-, rfl⟩⟩ := settle_next.1 h
  · exact ⟨u, hu, rfl⟩
  · exact ⟨t, hu, rfl⟩

theorem exec_rd_fault {r : Reg} {x : Word} {s t : State} (h : exec (.rd r x) s = .next t) :
    t.fault = if s.gateOK r = true then none else some (.unclocked (rdWord r x) s.pc) := by
  rw [exec_rd] at h
  obtain ⟨live, ⟨clocked, rfl⟩ | ⟨unclocked, rfl⟩⟩ := busRead_next.1 h
  · simp [clocked, live]
  · simp [unclocked]

/-- A write with no check of its own raises F_UNCLOCKED only. -/
theorem busWrite_fault {r : Reg} {d : Word} {s t : State} (h : busWrite r d s = .next t) :
    t.fault = if s.gateOK r = false then some (.unclocked (wrWord r d) s.pc) else none := by
  obtain ⟨live, ⟨clocked, rfl⟩ | ⟨unclocked, rfl⟩⟩ := busWrite_next.1 h
  · simp [clocked, live]
  · simp [unclocked]

/-- The CLK group is always clocked (R49), so the gate check of R50 is the only one. -/
theorem exec_wrClkctrl_fault {d : Word} {s t : State} (h : exec (.wrClkctrl d) s = .next t) :
    t.fault = if clearedGates s.clkctrl d ≠ 0#32 then some (.gateCleared (wrWord .clkctrl d) s.pc) else none := by
  obtain ⟨live, ⟨keeps, rfl⟩ | ⟨clears, rfl⟩⟩ := execWrClkctrl_next.1 h
  · simp [keeps, live]
  · simp [clears]

theorem exec_wrTcr_fault {d : Word} {s t : State} (h : exec (.wrTcr d) s = .next t) :
    t.fault = if s.gateTimer = false then some (.unclocked (wrWord .tcr d) s.pc)
      else if d[0] = true ∧ s.mr3 = 0#32 then some (.zeroPeriod (wrWord .tcr d) s.pc) else none := by
  obtain ⟨live, ⟨clocked, passes, rfl⟩ | ⟨clocked, fails, rfl⟩ | ⟨unclocked, rfl⟩⟩ := execWrTcr_next.1 h
  · rw [if_neg (by simp [clocked]), if_neg passes]
    simp [live]
  · rw [if_neg (by simp [clocked]), if_pos fails]
    rfl
  · rw [if_pos unclocked]
    rfl

/-- A write's clock gate comes first, then the check of R50 or R70 where the register has one. -/
theorem exec_wr_fault {r : Reg} {d : Word} {s t : State} (h : exec (.wr r d) s = .next t) :
    t.fault = if s.gateOK r = false then some (.unclocked (wrWord r d) s.pc)
      else if r = .clkctrl ∧ clearedGates s.clkctrl d ≠ 0#32 then some (.gateCleared (wrWord r d) s.pc)
      else if r = .tcr ∧ d[0] = true ∧ s.mr3 = 0#32 then some (.zeroPeriod (wrWord r d) s.pc) else none := by
  by_cases clk : r = .clkctrl
  · subst clk
    simpa [State.gateOK] using exec_wrClkctrl_fault h
  by_cases tcr : r = .tcr
  · subst tcr
    simpa [State.gateOK, State.tmrGateOK] using exec_wrTcr_fault h
  rw [exec_wr d s clk tcr] at h
  simpa [clk, tcr] using busWrite_fault h

/-- SET_DUTY has no word to write exactly where it raises F_DUTY_RANGE (R91). -/
theorem dutyOperand_eq_none_iff {policy : DutyPolicy} {p : Int} :
    dutyOperand policy p = none ↔ (p < 0 ∨ 100 < p) ∧ policy = .fault := by
  by_cases outside : p < 0 ∨ 100 < p
  · cases policy <;> simp [dutyOperand, outside]
  · simp [dutyOperand, outside]

/-- SET_DUTY checks its range before it issues its write. -/
theorem exec_setDuty_fault {p : Int} {s t : State} (h : exec (.setDuty p) s = .next t) :
    t.fault = if (p < 0 ∨ 100 < p) ∧ s.cfg.dutyPolicy = .fault then some (.dutyRange p s.pc)
      else if s.gateTimer = false then
        some (.unclocked (wrWord .mr0 ((dutyOperand s.cfg.dutyPolicy p).getD 0#32)) s.pc) else none := by
  obtain ⟨-, ⟨refused, rfl⟩ | ⟨v, operand, write⟩⟩ := execSetDuty_next.1 h
  · rw [if_pos (dutyOperand_eq_none_iff.1 refused)]
    rfl
  · have accepted : ¬ ((p < 0 ∨ 100 < p) ∧ s.cfg.dutyPolicy = .fault) := by
      rw [← dutyOperand_eq_none_iff, operand]
      simp
    rw [if_neg accepted, operand]
    exact busWrite_fault write

theorem exec_tick_fault {s t : State} (h : exec .tick s = .next t) :
    t.fault = if s.mr3 = 0#32 then some (.zeroPeriodTick s.tc) else none := by
  obtain ⟨enabled, ⟨zero, rfl⟩ | ⟨period, rfl⟩⟩ := execTick_next.1 h
  · simp [zero]
  · simp [period, State.fault_of_tickEnabled enabled]

/-- Settles O16: a word that decodes is the read's or the write's own word, so the fault records it. -/
theorem faultsAreCheckedInOrder : Obligations.FaultsAreCheckedInOrder := by
  refine ⟨fun s w ls live hp => ⟨fun _ => busStep_of_decode_error live hp, fun i hd t h => ?_⟩,
    fun _ _ _ _ => exec_setDuty_fault, fun _ _ => exec_tick_fault⟩
  obtain ⟨u, hu, same⟩ := busStep_fault hp (decodeLine_txn_eq_ok_iff.2 hd) h
  constructor
  · rintro r x rfl
    obtain rfl : rdWord r x = w := by simpa using decode_eq_ok_iff.1 hd
    exact same.trans (exec_rd_fault hu)
  · rintro r d rfl
    obtain rfl : wrWord r d = w := by simpa using decode_eq_ok_iff.1 hd
    exact same.trans (exec_wr_fault hu)

end Sys2Proof.Machine
end

section
/-! PROOFS. Reset, and the boot sequence under every interleaving (70_reset_and_hazards.md R102, R104, R107). -/

namespace Sys2Proof.Machine

/-! Reset (R102). -/

/-- CLKCTRL's reset value has the three gates off (10_state.md R11). -/
theorem clkctrlReset_gate_off {c : Config} (wf : c.ResetsWF) {n : Nat} (gate : gateMask.getLsbD n = true) :
    c.clkctrlReset.getLsbD n = false := by
  obtain ⟨gatesOff, -⟩ := wf
  have bit := congrArg (BitVec.getLsbD · n) gatesOff
  simpa [gate] using bit

/-- Settles O51. -/
theorem resetLeavesTheResetValues : Obligations.ResetLeavesTheResetValues := by
  rintro c ⟨-, resets, -, -⟩
  have off {n : Nat} (gate : gateMask.getLsbD n = true) := clkctrlReset_gate_off resets gate
  have hidden : (State.resetOf c).pwmPin = none :=
    if_neg fun ⟨_, mode⟩ => by simp [State.pwmen0, State.resetOf] at mode
  have disabled : (State.resetOf c).tickEnabled = false := by simp [State.tickEnabled, State.cen, State.resetOf]
  exact ⟨rfl, off (n := 6) (by decide), off (n := 7) (by decide), off (n := 16) (by decide), rfl, rfl, rfl, rfl, rfl,
    rfl, rfl, rfl, rfl, rfl, rfl, rfl, rfl, rfl, disabled, hidden⟩

/-! Runs that never stop. -/

/-- From a state that meets `P` there are runs of every length, if every state that meets it has a step that keeps it. -/
theorem runs_of_progress {P : State → Prop} (progress : ∀ s, P s → ∃ t, step s = .next t ∧ P t) {s : State}
    (hs : P s) (n : Nat) : ∃ t, Runs n s t ∧ P t := by
  induction n generalizing s with
  | zero => exact ⟨s, rfl, hs⟩
  | succ n ih =>
    obtain ⟨u, first, hu⟩ := progress s hs
    obtain ⟨t, rest, ht⟩ := ih hu
    exact ⟨t, runs_succ.2 ⟨u, first, rest⟩, ht⟩

/-- A run of `j + k` steps is a run of `j` and one of `k` after it. -/
theorem runs_split {j k : Nat} {s t : State} (h : Runs (j + k) s t) : ∃ u, Runs j s u ∧ Runs k u t := by
  induction j generalizing s with
  | zero => exact ⟨s, rfl, by rwa [Nat.zero_add] at h⟩
  | succ j ih =>
    rw [Nat.succ_add] at h
    obtain ⟨v, first, rest⟩ := runs_succ.1 h
    obtain ⟨u, before, after⟩ := ih rest
    exact ⟨u, runs_succ.2 ⟨v, first, before⟩, after⟩

/-- A run of `k` steps to a state from which every step keeps `P` is part of runs of every length that raise no fault. -/
theorem runs_through {P : State → Prop} (progress : ∀ s, P s → ∃ t, step s = .next t ∧ P t) {k : Nat}
    {s v : State} (run : Runs k s v) (hv : P v) (n : Nat) : ∃ t, Runs n s t ∧ t.fault = none ∧ (k ≤ n → P t) := by
  obtain short | long := Nat.lt_or_ge n k
  · obtain ⟨d, rfl⟩ := Nat.exists_eq_add_of_lt short
    rw [Nat.add_assoc] at run
    obtain ⟨t, before, after⟩ := runs_split run
    obtain ⟨u, next, -⟩ := runs_succ.1 after
    obtain ⟨live, -⟩ := step_next.1 next
    exact ⟨t, before, live, fun long => absurd short (Nat.not_lt.2 long)⟩
  · obtain ⟨d, rfl⟩ := Nat.exists_eq_add_of_le long
    obtain ⟨t, after, ht⟩ := runs_of_progress progress hv d
    obtain ⟨u, next, -⟩ := progress t ht
    obtain ⟨live, -⟩ := step_next.1 next
    exact ⟨t, iter_add run after, live, fun _ => ht⟩

theorem cfg_eq_of_runs {n : Nat} {s t : State} (h : Runs n s t) : t.cfg = s.cfg :=
  Runs.induct (P := fun u => u.cfg = s.cfg)
    (fun u v same next => (parametersNeverChange u v (.inl next)).trans same) rfl h

/-! How fast the program gets shorter. -/

@[simp] theorem instrSteps_rd (r : Reg) (x : Word) : instrSteps (.rd r x) = 1 := by cases r <;> rfl
@[simp] theorem instrSteps_wr (r : Reg) (d : Word) : instrSteps (.wr r d) = 1 := by cases r <;> rfl

/-- An operation of the bus master takes its line off the program, and puts a macro's other transactions before the
rest. -/
theorem exec_program {i : Instr} {s t : State} {l : Line} {ls : List Line} (hp : s.program = l :: ls)
    (hd : decodeLine l = .ok i) (h : exec i s = .next t) :
    ∃ new, t.program = new ++ ls ∧ lineSteps l ≤ (new.map lineSteps).sum + 1 := by
  rw [lineSteps_of_decodeLine hd]
  obtain ⟨-, effect⟩ := exec_effect h
  cases effect with
  | faulted f e => exact ⟨[l], by simp [e, hp], by simp [lineSteps_of_decodeLine hd]⟩
  | read r x hi _ e => exact ⟨[], by simp [e, hp], by simp [hi]⟩
  | write r d hi _ e => exact ⟨[], by simp [e, hp], by simp [hi]⟩
  | duty p v hi _ _ e => exact ⟨[], by simp [e, hp], by simp [hi, instrSteps]⟩
  | delay hi e => exact ⟨[], by simp [e, hp], by simp [hi, instrSteps]⟩
  | tick hi => exact absurd (hi ▸ hd) (decodeLine_ne_tick l)
  | orw r m rest _ hi e =>
    refine ⟨.txn (wrWord r (s.readReg r ||| m)) :: rest, by simp [e, hp], ?_⟩
    obtain ⟨rfl, rfl⟩ | ⟨rfl, -, -, rfl⟩ | ⟨rfl, -, -, rfl⟩ := hi <;>
      simp [instrSteps, configurePinsRest, initPwmRest]

/-- A step takes at most one step of the bus master off the lines at the head of the program. -/
theorem step_program {s t : State} {l : Line} {ls : List Line} (hp : s.program = l :: ls) (h : step s = .next t) :
    ∃ new, t.program = new ++ ls ∧ lineSteps l ≤ (new.map lineSteps).sum + 1 := by
  obtain ⟨-, ⟨f, rfl⟩ | ⟨l', ls', i, u, -, hp', hd, hu, -, rfl⟩ | ⟨-, -, rfl⟩⟩ := step_effect h
  · exact ⟨[l], hp, by simp⟩
  · obtain ⟨rfl, rfl⟩ := List.cons.inj (hp.symm.trans hp')
    exact exec_program (t := u) hp hd hu
  · exact ⟨[l], hp, by simp⟩

/-- A run with fewer steps than the lines at the head of the program take is not through with them. -/
theorem length_lt_of_runs {n : Nat} {s t : State} {head ls : List Line} (run : Runs n s t)
    (hp : s.program = head ++ ls) (short : n < (head.map lineSteps).sum) : ls.length < t.program.length := by
  induction n generalizing s head with
  | zero =>
    obtain rfl := runs_zero.1 run
    cases head with
    | nil => simp at short
    | cons l head => simp [hp]
  | succ n ih =>
    obtain ⟨u, first, rest⟩ := runs_succ.1 run
    cases head with
    | nil => simp at short
    | cons l head =>
      obtain ⟨new, hu, steps⟩ := step_program hp first
      refine ih (head := new ++ head) rest (by simp [hu]) ?_
      simp only [List.map_cons, List.sum_cons, List.map_append, List.sum_append] at short ⊢
      omega

/-! A running counter: a step is a TICK, which keeps it running, or the bus master's. -/

theorem State.PeriodSetUp.mr3_ne_zero {s : State} {p : Nat} (h : s.PeriodSetUp p) : s.mr3 ≠ 0#32 := by
  intro zero
  have period := h.period
  rw [zero] at period
  exact h.positive.ne period

/-- A change that leaves TICK enabled and the counter's mode and period as they were. -/
theorem State.PeriodSetUp.of_same {s t : State} {p : Nat} (h : s.PeriodSetUp p)
    (enabled : t.tickEnabled = s.tickEnabled) (mcr : t.mcr = s.mcr) (mr3 : t.mr3 = s.mr3) : t.PeriodSetUp p :=
  ⟨enabled.trans h.enabled, mcr.trans h.mode, by rw [mr3, h.period], h.positive⟩

theorem State.PeriodSetUp.live {s : State} {p : Nat} (h : s.PeriodSetUp p) : s.fault = none :=
  State.fault_of_tickEnabled h.enabled

/-- A property that TICKs keep, and that the bus master's step keeps while it has lines left, has a step that keeps it: at
the end of the program a running counter goes on. -/
theorem State.PeriodSetUp.progress {P : State → Prop} {s : State} {p : Nat} (h : s.PeriodSetUp p)
    (tick : P s.ticked.tickTaken) (bus : ∀ l ls, s.program = l :: ls → ∃ t, busStep s = .next t ∧ P t) :
    ∃ t, step s = .next t ∧ P t := by
  cases turn : s.ticksNext with
  | true =>
    exact ⟨_, (step_of_ticksNext turn).trans (tickStep_next.2 ⟨h.enabled, .inr ⟨h.mr3_ne_zero, rfl⟩⟩), tick⟩
  | false =>
    cases hp : s.program with
    | nil => simp [State.ticksNext, h.enabled, hp] at turn
    | cons l ls =>
      obtain ⟨t, next, ht⟩ := bus l ls hp
      exact ⟨t, (step_of_not_ticksNext h.live turn).trans next, ht⟩

/-- A write leaves the counter set up if it is of none of the counter's own registers and leaves the timer clocked. -/
theorem State.PeriodSetUp.issued {s : State} {p : Nat} (h : s.PeriodSetUp p) {r : Reg} {d : Word}
    (other : r ∉ [Reg.tcr, .mcr, .mr3]) (keepsGates : r = .clkctrl → clearedGates s.clkctrl d = 0#32) :
    (s.issued r d).PeriodSetUp p := by
  simp only [List.mem_cons, List.not_mem_nil, or_false, not_or] at other
  obtain ⟨notTcr, notMcr, notMr3⟩ := other
  have kept {r' : Reg} (ne : r ≠ r') : (s.issued r d).stored r' = s.stored r' := by simp [ne.symm]
  have cen : (s.issued r d).cen = s.cen := congrArg (BitVec.getLsbD · 0) (kept notTcr)
  have wasOn : s.gateTimer = true := State.gateTimer_of_tickEnabled h.enabled
  have on : (s.issued r d).gateTimer = true := State.gateOK_writeReg keepsGates (r' := .tcr) wasOn
  have enabled : (s.issued r d).tickEnabled = s.tickEnabled := by simp [State.tickEnabled, cen, wasOn, on]
  exact h.of_same enabled (kept notMcr) (kept notMr3)

/-! The lines after the first two: SET_DUTY within its range and DELAY. -/

/-- A SET_DUTY within [0, 100] or a DELAY. -/
def DutyLine (l : Line) : Prop := l = .delay ∨ ∃ p : BitVec 32, l = .setDuty p ∧ 0 ≤ p.toInt ∧ p.toInt ≤ 100

/-- While the counter runs a SET_DUTY within its range writes MR0, and a DELAY only goes on (R91, R92). -/
theorem DutyLine.busStep_eq {s : State} {p : Nat} {l : Line} {ls : List Line} (duty : DutyLine l) (h : s.PeriodSetUp p)
    (hp : s.program = l :: ls) :
    busStep s = .next s.skipLine.rearm ∨ ∃ d, busStep s = .next (s.issued .mr0 d) := by
  obtain rfl | ⟨q, rfl, low, high⟩ := duty
  · refine .inl ?_
    rw [busStep_of_decodeLine hp rfl]
    exact settle_next.2 ⟨_, execDelay_next.2 ⟨h.live, rfl⟩, .inl ⟨h.live, rfl⟩⟩
  · refine .inr ⟨dutyValue q.toInt, ?_⟩
    have clocked : s.clkctrl[7] = true := State.gateTimer_of_tickEnabled h.enabled
    rw [busStep_of_decodeLine hp rfl]
    exact settle_next.2 ⟨_, exec_setDuty_of_operand h.live clocked (dutyOperand_inside _ low high),
      .inl ⟨h.live, rfl⟩⟩

/-- The end of a boot sequence: the counter runs, and the lines left are SET_DUTYs and DELAYs. -/
structure DutyStage (p : Nat) (s : State) : Prop where
  setUp : s.PeriodSetUp p
  duties : ∀ l ∈ s.program, DutyLine l

/-- A step at the end of a boot sequence, which leaves the pin observable if it was. -/
theorem DutyStage.step_keeps {p : Nat} {s : State} (h : DutyStage p s) :
    ∃ t, step s = .next t ∧ DutyStage p t ∧ (s.Observable → t.Observable) := by
  refine h.setUp.progress (P := fun t => DutyStage p t ∧ (s.Observable → t.Observable))
    ⟨⟨h.setUp.of_same rfl rfl rfl, h.duties⟩, id⟩ fun l ls hp => ?_
  have duties := h.duties
  rw [hp, List.forall_mem_cons] at duties
  obtain ⟨duty, rest⟩ := duties
  obtain next | ⟨d, next⟩ := duty.busStep_eq h.setUp hp
  · exact ⟨_, next, ⟨h.setUp.of_same rfl rfl rfl, by simpa [hp] using rest⟩, id⟩
  · exact ⟨_, next, ⟨h.setUp.issued (by decide) (by simp), by simpa [hp] using rest⟩, id⟩

/-! CONFIGURE_PINS while the counter runs. -/

/-- A line of CONFIGURE_PINS after its ORW of CLKCTRL: a write or an ORW of a pin register. -/
inductive PinLine : Line → Prop
  | wr (r : Reg) (d : Word) (pin : r.blk = 1#3) : PinLine (.txn (wrWord r d))
  | orw (r : Reg) (m : Word) (pin : r.blk = 1#3) : PinLine (.orw r m)

theorem pinLine_of_mem_configurePinsRest {c : Config} {l : Line} (h : l ∈ configurePinsRest c) : PinLine l := by
  simp only [configurePinsRest, List.mem_cons, List.not_mem_nil, or_false] at h
  obtain rfl | rfl | rfl | rfl := h
  · exact .orw .pinOd _ rfl
  · exact .wr .pinDbg0 _ rfl
  · exact .wr .pinDbg1 _ rfl
  · exact .orw .pinPwm _ rfl

/-- Where CONFIGURE_PINS, issued while the counter runs, has got to. -/
inductive PinsProgress (s : State) : Prop
  /-- It stands next. -/
  | waiting (ls : List Line) (hp : s.program = .configurePins :: ls) (duties : ∀ l ∈ ls, DutyLine l)
  /-- It has read CLKCTRL, and the write that turns the pins' gates on stands next. -/
  | gates (ls : List Line)
      (hp : s.program = .txn (wrWord .clkctrl (s.clkctrl ||| 0x00010040#32)) :: (configurePinsRest s.cfg ++ ls))
      (duties : ∀ l ∈ ls, DutyLine l)
  /-- The pin registers are clocked; what is left are its other lines and the lines after it. -/
  | clocked (pins : s.pinGateOK = true) (lines : ∀ l ∈ s.program, PinLine l ∨ DutyLine l)

/-- A boot sequence that began with INIT_PWM, from the end of INIT_PWM on. -/
structure PinsStage (p : Nat) (s : State) : Prop where
  setUp : s.PeriodSetUp p
  progress : PinsProgress s

theorem gateOK_of_pin {s : State} (pins : s.pinGateOK = true) {r : Reg} (pin : r.blk = 1#3) : s.gateOK r = true := by
  cases r with
  | pinOd | pinDbg0 | pinDbg1 | pinPwm => exact pins
  | clkctrl | tcr | tc | mcr | mr0 | mr3 | pwmc => exact absurd pin (by decide)

/-- The lines left after a write other than of CLKCTRL or of the counter's own registers. -/
theorem PinsStage.issued {p : Nat} {s : State} {r : Reg} {d : Word} {l : Line} {ls : List Line} (setUp : s.PeriodSetUp p)
    (pins : s.pinGateOK = true) (hp : s.program = l :: ls) (rest : ∀ l ∈ ls, PinLine l ∨ DutyLine l)
    (other : r ∉ [Reg.clkctrl, .tcr, .mcr, .mr3]) : PinsStage p (s.issued r d) := by
  rw [List.mem_cons, not_or] at other
  obtain ⟨notGates, other⟩ := other
  have clkctrl : (s.issued r d).clkctrl = s.clkctrl :=
    (State.issued_stored s r .clkctrl d).trans (if_neg (Ne.symm notGates))
  have gate : (s.issued r d).pinGateOK = true := by
    have same := State.gateOK_eq_of_clkctrl clkctrl .pinOd
    exact same.trans pins
  exact ⟨setUp.issued other (absurd · notGates), .clocked gate (by simpa [hp] using rest)⟩

/-- The bus master's step on a line of CONFIGURE_PINS, the pin registers being clocked. -/
theorem PinLine.busStep_keeps {p : Nat} {s : State} {l : Line} {ls : List Line} (line : PinLine l)
    (setUp : s.PeriodSetUp p) (pins : s.pinGateOK = true) (hp : s.program = l :: ls)
    (rest : ∀ l ∈ ls, PinLine l ∨ DutyLine l) : ∃ t, busStep s = .next t ∧ PinsStage p t := by
  cases line with
  | wr r d pin =>
    obtain ⟨notGates, notTcr⟩ := ne_of_blk_iocon pin
    have write : busStep s = .next (s.issued r d) :=
      busStep_wr_completes hp setUp.live (gateOK_of_pin pins pin) (absurd · notGates) (absurd · notTcr)
    have other : r ∉ [Reg.clkctrl, .tcr, .mcr, .mr3] := by revert pin; cases r <;> decide
    exact ⟨_, write, .issued setUp pins hp rest other⟩
  | orw r m pin =>
    have read : busStep s = .next (s.orwRead r m []) :=
      busStep_orwThen hp (i := .orw r m) rfl rfl setUp.live (gateOK_of_pin pins pin)
    refine ⟨_, read, setUp.of_same rfl rfl rfl, .clocked pins ?_⟩
    simpa [hp] using ⟨.inl (.wr r _ pin), rest⟩

/-- The bus master's step, wherever CONFIGURE_PINS has got to. -/
theorem PinsStage.busStep_keeps {p : Nat} {s : State} (h : PinsStage p s) {l : Line} {ls : List Line}
    (hl : s.program = l :: ls) : ∃ t, busStep s = .next t ∧ PinsStage p t := by
  obtain ⟨setUp, progress⟩ := h
  cases progress with
  | waiting ls hp duties =>
    have read : busStep s = .next (s.orwRead .clkctrl 0x00010040#32 (configurePinsRest s.cfg)) :=
      busStep_orwThen hp (i := .configurePins) rfl rfl setUp.live rfl
    refine ⟨_, read, setUp.of_same rfl rfl rfl, .gates ls ?_ duties⟩
    rw [State.orwRead_program, State.readReg_clkctrl, hp]
    rfl
  | gates ls hp duties =>
    have keepsGates := clearedGates_or s.clkctrl 0x00010040#32
    have write := busStep_wr_completes hp setUp.live rfl (fun _ => keepsGates) (by simp)
    have clkctrl : (s.issued .clkctrl (s.clkctrl ||| 0x00010040#32)).clkctrl = s.clkctrl ||| 0x00010040#32 :=
      (State.issued_stored s .clkctrl .clkctrl _).trans (and_clkctrl_mask _)
    refine ⟨_, write, setUp.issued (by decide) fun _ => keepsGates, .clocked ?_ ?_⟩
    · simp [State.pinGateOK, State.gateIocon, State.gateGpio, clkctrl]
    · intro l hl
      rw [State.issued_program, hp, List.tail_cons, List.mem_append] at hl
      exact hl.imp pinLine_of_mem_configurePinsRest (duties l)
  | clocked pins lines =>
    rw [hl, List.forall_mem_cons] at lines
    obtain ⟨pin | duty, rest⟩ := lines
    · exact pin.busStep_keeps setUp pins hl rest
    · obtain next | ⟨d, next⟩ := duty.busStep_eq setUp hl
      · exact ⟨_, next, setUp.of_same rfl rfl rfl, .clocked pins (by simpa [hl] using rest)⟩
      · exact ⟨_, next, .issued setUp pins hl rest (by decide)⟩

theorem PinsStage.step_keeps {p : Nat} {s : State} (h : PinsStage p s) : ∃ t, step s = .next t ∧ PinsStage p t := by
  refine h.setUp.progress ⟨h.setUp.of_same rfl rfl rfl, ?_⟩ fun l ls hl => h.busStep_keeps hl
  cases h.progress with
  | waiting ls hp duties => exact .waiting ls hp duties
  | gates ls hp duties => exact .gates ls hp duties
  | clocked pins lines => exact .clocked pins lines

/-! The boot sequence (R104). -/

/-- INIT_PWM from a live state with TCR = 0: no TICK comes before its last write, after which the counter runs. -/
theorem runs_initPwm_setUp {s : State} {ls : List Line} (wf : s.cfg.WF) (live : s.fault = none)
    (hp : s.program = .initPwm :: ls) (off : s.tcr = 0#32) :
    ∃ v, Runs 8 s v ∧ v.PeriodSetUp s.cfg.periodValue ∧ v.program = ls ∧ v.cfg = s.cfg ∧ v.pinPwm = s.pinPwm ∧
      v.pwmc = 1#32 := by
  have ⟨_, _, period, _⟩ := wf
  have ⟨_, _, positive, _⟩ := period
  have cen : s.cen = false := by simp [State.cen, off]
  have run := runs_initPwm_of_cen_off period live hp cen (initPwmCompletes s ls wf live hp)
  have gate : (s.clkctrl ||| 0x00000080#32)[7] = true := by simp
  have starts : (1#32 : Word)[0] = true := by simp
  refine ⟨_, run, ⟨?_, rfl, periodWord_toNat period, positive⟩, rfl, rfl, rfl, rfl⟩
  exact State.tickEnabled_iff.2 ⟨live, gate, starts⟩

/-- CONFIGURE_PINS and INIT_PWM from reset are the first 16 steps, whatever the interleaving: CEN = 0 until the last of
them. They leave the counter running, and the pin observable where R107's condition holds. -/
theorem runs_bootSequence {c : Config} {ls : List Line} (wf : c.WF) (duties : ∀ l ∈ ls, DutyLine l) :
    ∃ v, Runs 16 { State.resetOf c with program := .configurePins :: .initPwm :: ls } v ∧
      DutyStage c.periodValue v ∧ (pinFunc c.pinResetPwm &&& ~~~c.funcPwmMat0 = 0#3 → v.Observable) := by
  obtain ⟨u, pinsRun, live, -, hp, -, -, -, -, -, tcr, -, -, -, -, -, -, func⟩ :=
    configurePinsFromReset c (.initPwm :: ls) wf
  have cfg : u.cfg = c := cfg_eq_of_runs pinsRun
  obtain ⟨v, initRun, setUp, program, cfg', pinPwm, pwmc⟩ := runs_initPwm_setUp (cfg.symm ▸ wf) live hp tcr
  rw [cfg] at setUp cfg'
  refine ⟨v, iter_add pinsRun initRun, ⟨setUp, program ▸ duties⟩, fun condition => ⟨?_, by simp [pwmc]⟩⟩
  rw [pinPwm, cfg']
  exact func.2 condition

/-- CONFIGURE_PINS first: before the 16 steps of the first two are done, lines of theirs are left to issue; afterwards the
pin stays observable. -/
theorem bootSequence_configurePins_first {c : Config} {ls : List Line} (wf : c.WF) (duties : ∀ l ∈ ls, DutyLine l)
    (n : Nat) :
    ∃ t, Runs n { State.resetOf c with program := .configurePins :: .initPwm :: ls } t ∧ t.fault = none ∧
      (t.program.length ≤ ls.length → pinFunc c.pinResetPwm &&& ~~~c.funcPwmMat0 = 0#3 →
        t.pwmPin = some t.mat0) := by
  obtain ⟨v, run, stage, observable⟩ := runs_bootSequence wf duties
  obtain ⟨t, runs, live, after⟩ := runs_through
    (P := fun t => DutyStage c.periodValue t ∧ (pinFunc c.pinResetPwm &&& ~~~c.funcPwmMat0 = 0#3 → t.Observable))
    (fun s ⟨stage, observable⟩ =>
      have ⟨t, next, stage', kept⟩ := stage.step_keeps
      ⟨t, next, stage', fun condition => kept (observable condition)⟩)
    run ⟨stage, observable⟩ n
  refine ⟨t, runs, live, fun through condition => ?_⟩
  have long : 16 ≤ n := by
    by_contra short
    have more := length_lt_of_runs (head := [.configurePins, .initPwm]) runs rfl (Nat.lt_of_not_le short)
    omega
  obtain ⟨-, shows⟩ := after long
  exact if_pos (shows condition)

/-- INIT_PWM first: the counter runs while CONFIGURE_PINS is issued, and its period is not 0. -/
theorem bootSequence_initPwm_first {c : Config} {ls : List Line} (wf : c.WF) (duties : ∀ l ∈ ls, DutyLine l)
    (n : Nat) :
    ∃ t, Runs n { State.resetOf c with program := .initPwm :: .configurePins :: ls } t ∧ t.fault = none := by
  obtain ⟨v, run, setUp, hp, -⟩ :=
    runs_initPwm_setUp (s := { State.resetOf c with program := .initPwm :: .configurePins :: ls }) wf rfl rfl rfl
  have stage : PinsStage c.periodValue v := ⟨setUp, .waiting ls hp duties⟩
  obtain ⟨t, runs, live, -⟩ := runs_through (fun _ => PinsStage.step_keeps) run stage n
  exact ⟨t, runs, live⟩

/-- Settles O54. -/
theorem bootSequenceNeverFaults : Obligations.BootSequenceNeverFaults := fun _ _ n wf duties =>
  ⟨bootSequence_configurePins_first wf duties n, bootSequence_initPwm_first wf duties n⟩

end Sys2Proof.Machine
end
